-- ==== Sys2Proof/Word.lean ====
section
/-!
DEFINITION. Bytes and words of the links (spec 00 section 0.4.3): a word is 4 bytes.
-/

namespace Sys2Proof

/-- One byte between a frame's start and end symbols. -/
abbrev Byte := BitVec 8

/-- One payload word or header of a frame (00 section 0.4.3). -/
abbrev Word := BitVec 32

/-- FFFFFFFFh: the word in which an absent value is sent (R98, R128, R215). -/
def Word.absent : Word := BitVec.allOnes 32

end Sys2Proof
end

