-- ==== Sys2Proof/Syntax.lean ====
section
/-!
DEFINITION. The commands of the block: one constructor for each row of spec/opcode_table.json. The steps are whole
and indivisible (spec 95, R151, R210).
-/

namespace Sys2Proof

/-- The client ports PORT0 to PORT3 (00 section 0.2). -/
inductive PortId where
  | p0 | p1 | p2 | p3
  deriving DecidableEq, Repr

/-- The four sensor inputs, each on its own link SL0 to SL3 (02 section 2.1). -/
inductive Source where
  | headL | headR | inertial | marker
  deriving DecidableEq, Repr

/-- The tachometer channels T1 and T2 (01 section 1.1). -/
inductive Channel where
  | t1 | t2
  deriving DecidableEq, Repr

/-- The quadrature lines: cA and cB of each channel (01 section 1.1). -/
inductive TachLine where
  | t1A | t1B | t2A | t2B
  deriving DecidableEq, Repr

/-- The commands. A request row carries its port only: its kind, tag and payload stand in the port's inbox
(R203, notes/assumptions/4.md). `bytes` are the bytes between a frame's start and end symbols (R192). -/
inductive Instr where
  | powerOn
  | resetn
  | timebaseWrap
  | tachRawChange (line : TachLine) (level : Bool)
  | tachEdgeValidated (line : TachLine)
  | spacingPulseStart
  | spacingPulseEnd
  | sensorFrameArrival (source : Source) (bytes : List Byte)
  | sensorLinkDown (source : Source)
  | sensorLinkUp (source : Source)
  | sourceStaleDeadline (source : Source)
  | alignDeadline
  | clientFrameArrival (port : PortId) (bytes : List Byte)
  | clientLinkDown (port : PortId)
  | clientLinkUp (port : PortId)
  | presenceDeadline (port : PortId)
  | transmitFrameStart (port : PortId)
  | transmitFrameEnd (port : PortId)
  | yieldDeadline
  | presence (port : PortId)
  | echo (port : PortId)
  | identify (port : PortId)
  | setLink (port : PortId)
  | readStatus (port : PortId)
  | readTable (port : PortId)
  | readPoints (port : PortId)
  | streamPoints (port : PortId)
  | stopStream (port : PortId)
  | readExceedances (port : PortId)
  | ackUrgent (port : PortId)
  | claim (port : PortId)
  | yield (port : PortId)
  | keep (port : PortId)
  | release (port : PortId)
  | rejoin (port : PortId)
  | loadSettings (port : PortId)
  | loadThresholds (port : PortId)
  | sectionPut (port : PortId)
  | sectionDrop (port : PortId)
  | sectionClear (port : PortId)
  | markerPut (port : PortId)
  | markerDrop (port : PortId)
  | markerClear (port : PortId)
  | startRun (port : PortId)
  | endRun (port : PortId)
  | manualFix (port : PortId)
  | resetPart (port : PortId)
  | unknownKindRequest (port : PortId)
  deriving DecidableEq, Repr

end Sys2Proof
end

