-- ==== Sys2Proof/Decode.lean ====
section
/-!
DEFINITION. The words of spec/opcode_table.json. No row of the table gives bits (every "fields" is empty), so no word
spells a command. The frame layer of the links has its own code, in Sys2Proof/Machine/Frame.lean.
-/

namespace Sys2Proof

/-- The command that a word of the table spells: none, since no row of the table gives bits. -/
def decodeTableWord (_nbits _w : Nat) : Option Instr := none

end Sys2Proof
end

