-- ==== Sys2Proof/Machine/State.lean ====
section
/-!
DEFINITION. The state of the TG440 as plain data, block by block (spec 00 section 0.2), and the state right after
reset. INVENTORY.md names the rule and the reset value of every field.

Conventions. Counts, times, indices, distances and chainages are numbers (Nat, Int): the rules compute with them
exactly and limit them explicitly (R1). Words, masks and flag sets that the links carry whole are bit vectors.
-/

namespace Sys2Proof.Machine

/-! ### Fixed collections -/

/-- One value for each client port. -/
structure PerPort (α : Type) where
  p0 : α
  p1 : α
  p2 : α
  p3 : α
  deriving DecidableEq, Repr

/-- One value for each sensor source. -/
structure PerSource (α : Type) where
  headL : α
  headR : α
  inertial : α
  marker : α
  deriving DecidableEq, Repr

/-- One value for each of the three queued sources (R44). -/
structure PerQueued (α : Type) where
  headL : α
  headR : α
  inertial : α
  deriving DecidableEq, Repr

/-- One value for each tachometer channel. -/
structure PerChannel (α : Type) where
  t1 : α
  t2 : α
  deriving DecidableEq, Repr

/-- One value for each quadrature line. -/
structure PerLine (α : Type) where
  t1A : α
  t1B : α
  t2A : α
  t2B : α
  deriving DecidableEq, Repr

/-- The eight geometry parameters, numbered 0 to 7 in this order (00 section 0.4.6). -/
inductive Param where
  | gauge | cant | levelL | levelR | alignL | alignR | twist | curv
  deriving DecidableEq, Repr

/-- One value for each geometry parameter. -/
structure PerParam (α : Type) where
  gauge : α
  cant : α
  levelL : α
  levelR : α
  alignL : α
  alignR : α
  twist : α
  curv : α
  deriving DecidableEq, Repr

/-! ### ODO (chapter 1) -/

/-- Odometry states (R11, R12). -/
inductive OdoState where
  | normal | slide | fault
  deriving DecidableEq, Repr

/-- Survey direction: tachometer sense against survey sense (R5). -/
inductive Direction where
  | forward | reverse
  deriving DecidableEq, Repr

/-- One tachometer line: the input pin, the filtered level, and the stamp of a candidate transition under test (R4).
A candidate's new level is the opposite of the filtered level. -/
structure LineState where
  raw : Bool
  filtered : Bool
  candidate : Option Nat
  deriving DecidableEq, Repr

/-- One tachometer channel: q_c, r_c, R_c, D_c and the glitch counter (R4, R6). -/
structure Tach where
  q : Nat
  r : Nat
  rem : Nat
  dist : Int
  glitches : Nat
  deriving DecidableEq, Repr

/-- An open comparison window: A1, A2 and backward seen (R9). -/
structure Window where
  advance : PerChannel Int
  backward : Bool
  deriving DecidableEq, Repr

/-- ODO's state (01 R23). -/
structure Odo where
  lines : PerLine LineState
  tach : PerChannel Tach
  direction : Direction
  runDistance : Int
  highWater : Int
  eventRec : Option (Nat × Int)
  history : List (Nat × Int)
  state : OdoState
  believed : Channel
  window : Option Window
  backtrack : Bool
  pendingSeam : Bool
  lastSpeed : Nat
  lastCrossing : Nat
  judged : Nat
  discarded : Nat
  disagreeing : Nat
  agreeRun : Nat
  disagreeRun : Nat
  spacingOwed : Nat
  spacingHigh : Bool
  spacingSince : Nat
  deriving DecidableEq, Repr

/-! ### INTAKE (chapter 2) -/

/-- Source states (02 section 2.3). -/
inductive SourceState where
  | absent | live | stale
  deriving DecidableEq, Repr

/-- The values of a head sample (02 section 2.1). -/
structure HeadVals where
  g : Int
  h : Int
  deriving DecidableEq, Repr

/-- The values of an inertial sample (02 section 2.1). -/
structure InertialVals where
  aL : Int
  aR : Int
  aLat : Int
  theta : Int
  omega : Int
  deriving DecidableEq, Repr

/-- A queue entry: stamp, values and clamp mark (02 section 2.6). -/
structure Entry (α : Type) where
  stamp : Nat
  vals : α
  clamp : Bool
  deriving DecidableEq, Repr

/-- One sensor source: its receiver's link report, its state and deadline, its sequence and stamp tracking, and its
counters (R41). A counter that R41 does not give a source stays 0 and is not reported. -/
structure SourceUnit where
  linkUp : Bool
  state : SourceState
  deadline : Option Nat
  prevSeq : Option Nat
  prevStamp : Option Nat
  badFrames : Nat
  correctedHeaders : Nat
  kindMismatches : Nat
  linkLosses : Nat
  missing : Nat
  nonmonotone : Nat
  spotLosses : Nat
  clampedSamples : Nat
  overrun : Nat
  late : Nat
  weakReads : Nat
  passedReads : Nat
  deriving DecidableEq, Repr

/-- INTAKE's state (02 R42). Queues are oldest first. -/
structure Intake where
  units : PerSource SourceUnit
  queueL : List (Entry HeadVals)
  queueR : List (Entry HeadVals)
  queueI : List (Entry InertialVals)
  refTime : Option Nat
  deriving DecidableEq, Repr

/-! ### GRID (chapter 3) -/

/-- A created point not yet formed, as ODO gave it at creation (R18, R43). -/
structure CreatedPoint where
  index : Nat
  crossing : Nat
  speed : Nat
  afterBacktrack : Bool
  deriving DecidableEq, Repr

/-- GRID's part of one queued source (R52, R59). -/
structure GridSource where
  holdCount : Nat
  heldPoints : Nat
  voidPoints : Nat
  deadlinePoints : Nat
  deriving DecidableEq, Repr

/-- GRID's state (03 R60). `waiting` is in index order: its first is the awaited point. -/
structure Grid where
  waiting : List CreatedPoint
  deadline : Option Nat
  units : PerQueued GridSource
  clampedPoints : Nat
  finished : Bool
  deriving DecidableEq, Repr

/-! ### GEO (chapter 4) -/

/-- Value statuses, in rising precedence (R3); the code is the position (00 section 0.4.7). -/
inductive Status where
  | good | held | clamped | void
  deriving DecidableEq, Repr

/-- The mark of an integrator at a raw point (R68). -/
inductive IntegMark where
  | clear | held | clamped
  deriving DecidableEq, Repr

/-- The low-speed state: OUT or IN (R62). -/
inductive LowSpeed where
  | outside | inside
  deriving DecidableEq, Repr

/-- An integrator: slope in nrad and displacement in nm (R65). -/
structure Integrator where
  slope : Int
  disp : Int
  deriving DecidableEq, Repr

/-- An entry of the chord history (R71). -/
structure ChordEntry where
  index : Nat
  zL : Int
  zR : Int
  yL : Int
  yR : Int
  headL : Status
  headR : Status
  inertial : Status
  inertialClamp : Bool
  markVL : IntegMark
  markVR : IntegMark
  markLat : IntegMark
  seam : Bool
  lowSpeed : Bool
  deriving DecidableEq, Repr

/-- An entry of the cant history (R74). -/
structure CantEntry where
  index : Nat
  value : Int
  status : Status
  deriving DecidableEq, Repr

/-- GEO's state (04 R89). Histories are oldest first. -/
structure Geo where
  low : LowSpeed
  vl : Integrator
  vr : Integrator
  lat : Integrator
  chord : List ChordEntry
  cants : List CantEntry
  tailDone : Bool
  seams : Nat
  lowEntries : Nat
  clampsVL : Nat
  clampsVR : Nat
  clampsLat : Nat
  valueClamps : PerParam Nat
  deriving DecidableEq, Repr

/-! ### STORE (chapter 5) -/

/-- Location states (06 section 6.5). -/
inductive LocState where
  | unfixed | fixed | doubtful
  deriving DecidableEq, Repr

/-- The point that a slot holds: the fields of the point record (05 section 5.2) and the readable mark that step 3 of
R81 sets. -/
structure PointRec where
  index : Nat
  chainage : Int
  crossing : Nat
  speed : Nat
  slide : Bool
  odoState : OdoState
  locState : LocState
  slew : Bool
  rebase : Bool
  seam : Bool
  lowSpeed : Bool
  tail : Bool
  suppressed : Bool
  exceeding : Bool
  trackClass : Fin 8
  highest : Nat
  sectionId : Nat
  values : PerParam Int
  statuses : PerParam Status
  readable : Bool
  deriving DecidableEq, Repr

/-- A stream of a port (05 section 5.4). `remaining = none` is open-ended. -/
structure Stream where
  cursor : Nat
  remaining : Option Nat
  tag : Byte
  delivered : Nat
  lost : Nat
  deriving DecidableEq, Repr

/-- STORE's state (05 R113). `slots` lists the slots that hold a point, as (slot number, point) in rising order of
slot number; `w`, `f`, `c` are the frontiers W, F and C. -/
structure Store where
  slots : List (Nat × PointRec)
  w : Option Nat
  f : Option Nat
  c : Option Nat
  overwritten : Nat
  streams : PerPort (Option Stream)
  deriving DecidableEq, Repr

/-! ### POS (chapter 6) -/

/-- Chainage sense: +1 or -1 (00 section 0.4.5). -/
inductive Sense where
  | rising | falling
  deriving DecidableEq, Repr

/-- POS's state (06 R134). The marker table is in ascending order of ident; the last-fix record is an ident and a run
distance. -/
structure Pos where
  base : Int
  sense : Sense
  applied : Int
  target : Int
  state : LocState
  mismatch : Nat
  pendingRebase : Bool
  lastFix : Option (Nat × Int)
  lastChainage : Option Int
  markers : List (Nat × Int)
  acceptedFixes : Nat
  mismatches : Nat
  markerRebases : Nat
  manualFixes : Nat
  idleReads : Nat
  earlyReads : Nat
  unknownReads : Nat
  repeatReads : Nat
  outOfRange : Nat
  chainageLimits : Nat
  deriving DecidableEq, Repr

/-! ### CLS (chapter 7) -/

/-- A section entry: `start` inclusive, `stop` exclusive; an optional suppress mask and an optional label (07 section
7.1). -/
structure SectionEntry where
  id : Nat
  start : Int
  stop : Int
  trackClass : Fin 8
  mask : Option (BitVec 8)
  label : Option (List Byte)
  deriving DecidableEq, Repr

/-- The six limits of a parameter in a threshold set; 0 disables a level (R143). -/
structure Limits where
  hi1 : Nat
  hi2 : Nat
  hi3 : Nat
  lo1 : Nat
  lo2 : Nat
  lo3 : Nat
  deriving DecidableEq, Repr

/-- CLS's state (07 R150). Sections are in ascending order of start. -/
structure Cls where
  sections : List SectionEntry
  thresholds : Vector (PerParam Limits) 8
  editCount : Nat
  loads : Nat
  inSection : Nat
  defaulted : Nat
  deriving DecidableEq, Repr

/-! ### EXM (chapter 8) -/

/-- The side of an exceedance (R143). -/
inductive Side where
  | high | low
  deriving DecidableEq, Repr

/-- Why a record closed (R155). -/
inductive CloseReason where
  | below | side | length | void | suppressed | runEnd
  deriving DecidableEq, Repr

/-- The urgent state of a record (R164). -/
inductive UrgentState where
  | notUrgent | unacked | acked
  deriving DecidableEq, Repr

/-- How a record closed. The end fields and the reason are present together (R168). -/
structure Closing where
  reason : CloseReason
  endIndex : Nat
  endChainage : Int
  deriving DecidableEq, Repr

/-- An exceedance record (08 section 8.2). `closing = none` is an open record; `sectionId = 0` is an absent section. -/
structure ExcRecord where
  id : Nat
  param : Param
  side : Side
  level : Nat
  startIndex : Nat
  startChainage : Int
  peakValue : Int
  peakIndex : Nat
  sectionId : Nat
  closing : Option Closing
  continued : Bool
  urgency : UrgentState
  deriving DecidableEq, Repr

/-- A parameter's open record, by its id, with its last exceeding point (R154). -/
structure OpenGroup where
  id : Nat
  side : Side
  lastIndex : Nat
  lastChainage : Int
  deriving DecidableEq, Repr

/-- The grouping state of a parameter (R154). -/
structure Group where
  current : Option OpenGroup
  clean : Nat
  lengthMark : Option (Nat × Side)
  deriving DecidableEq, Repr

/-- EXM's state (08 R174). -/
structure Exm where
  records : List ExcRecord
  nextId : Nat
  groups : PerParam Group
  pointsJudged : Nat
  exceedingPoints : Nat
  suppressedPoints : Nat
  recordsOpened : Nat
  recordsClosed : Nat
  evicted : Nat
  dropped : Nat
  urgentRecords : Nat
  acknowledgements : Nat
  urgent : Bool
  deriving DecidableEq, Repr

/-! ### RUN (chapter 9) -/

/-- The finishing stages (R180). -/
inductive RunStage where
  | forming | tailing | closing
  deriving DecidableEq, Repr

/-- The run states; a stage exists only in FINISHING (R175). -/
inductive RunState where
  | idle
  | running
  | finishing (stage : RunStage)
  deriving DecidableEq, Repr

/-- The run record (09 section 9.1). -/
structure RunRecord where
  direction : Direction
  sense : Sense
  start : Int
  t0 : Nat
  deriving DecidableEq, Repr

/-- The 32 fields of the survey settings record, in field order (R185). -/
structure Settings where
  pprT1 : Nat
  pprT2 : Nat
  circT1 : Nat
  circT2 : Nat
  primary : Nat
  glitchUs : Nat
  slideTol : Nat
  backtrackMm : Nat
  latencyL : Nat
  latencyR : Nat
  latencyI : Nat
  latencyM : Nat
  staleMs : Nat
  alignWaitUs : Nat
  holdLimit : Nat
  headSpan : Nat
  nominalGauge : Nat
  cantBase : Nat
  levelHalf : Nat
  alignHalf : Nat
  twistBase : Nat
  leakShift : Nat
  vMin : Nat
  captureMm : Nat
  slewMm : Nat
  mismatchLimit : Nat
  gapTol : Nat
  maxRecordPoints : Nat
  defaultClass : Nat
  presenceMs : Nat
  badFrameLimit : Nat
  yieldMs : Nat
  deriving DecidableEq, Repr

/-- RUN's state (09 R191). -/
structure Run where
  state : RunState
  number : BitVec 16
  record : Option RunRecord
  pendingEnd : Option (PortId × Byte)
  settings : Settings
  loadCount : Nat
  deriving DecidableEq, Repr

/-! ### PORT (chapter 10) -/

/-- Port states (10 section 10.3). -/
inductive PortState where
  | offline | silent | active | barred
  deriving DecidableEq, Repr

/-- The notice kinds, in the order of their class bits (10 section 10.6) and of their kind codes 60h to 6Bh (11
section 11.1). -/
inductive NoticeClass where
  | points | gap | streamEnd | exceedance | urgent | urgentAcked | authority | yieldAsked | run | location | source
  | odometry
  deriving DecidableEq, Repr

/-- A request as the inbox holds it: kind, tag and payload words (R203). -/
structure Request where
  kind : Byte
  tag : Byte
  payload : List Word
  deriving DecidableEq, Repr

/-- REPLY or REFUSE (R210). -/
inductive AnswerKind where
  | reply | refuse
  deriving DecidableEq, Repr

/-- A queued answer. `rest` is its payload from the second word on; the first is written at sending (R204, R206). -/
structure Answer where
  kind : AnswerKind
  tag : Byte
  rest : List Word
  deriving DecidableEq, Repr

/-- A slot of the reply queue that is in use (R203, R204). -/
inductive ReplySlot where
  | reserved
  | frame (answer : Answer)
  deriving DecidableEq, Repr

/-- A queued notice (R205, R206). -/
structure Notice where
  cls : NoticeClass
  tag : Byte
  payload : List Word
  deriving DecidableEq, Repr

/-- A request that stays in service after it is served, with its tag (R210). -/
inductive InService where
  | endRun (tag : Byte)
  | claim (tag : Byte)
  deriving DecidableEq, Repr

/-- A port's link options (R214). Masks: bit 0 LOCATION, 1 SOURCE, 2 ODOMETRY; bit l - 1 for level l; the class bits
of 10 section 10.6. -/
structure LinkOptions where
  maxReplyWords : Nat
  noticeMask : BitVec 3
  levelMask : BitVec 3
  attentionMask : BitVec 12
  deriving DecidableEq, Repr

/-- One client port (10 R209). -/
structure Port where
  state : PortState
  inbox : List Request
  inService : Option InService
  replies : List ReplySlot
  notices : List Notice
  linkErrors : BitVec 7
  txSeq : BitVec 2
  rxSeq : Option (BitVec 2)
  presenceAt : Option Nat
  badRun : Nat
  attention : BitVec 12
  attn : Bool
  options : LinkOptions
  sending : Option (List Byte)
  badFrames : Nat
  correctedHeaders : Nat
  sequenceGaps : Nat
  inboxDrops : Nat
  lostNotices : Nat
  presenceTimeouts : Nat
  bars : Nat
  barredDrops : Nat
  deriving DecidableEq, Repr

/-! ### SVC (chapter 11) -/

/-- The authority state (11 section 11.5). -/
structure Svc where
  holder : Option PortId
  claimant : Option PortId
  yieldAt : Option Nat
  deriving DecidableEq, Repr

/-! ### The whole part -/

/-- The state of the part. `now` is the timebase count (R2). `freeCount` and `pending` are the model's own: how many
free values have been used, and the commands that wait, first in first out. -/
structure State where
  now : Nat
  odo : Odo
  intake : Intake
  grid : Grid
  geo : Geo
  store : Store
  pos : Pos
  cls : Cls
  exm : Exm
  run : Run
  ports : PerPort Port
  svc : Svc
  freeCount : Nat
  pending : List Instr
  deriving DecidableEq, Repr

/-- Why a step can stop with a fault: never. The part has no fault that stops it (INVENTORY.md, Faults), so the type
has no constructor and nothing raises it: neither safe nor unsafe. -/
inductive Fault : Type
  deriving DecidableEq, Repr

/-- Why a command can be refused by the model. -/
inductive Refusal where
  /-- Raised by a dispatch arm whose command has no meaning yet; no arm raises it now. Safe: the run stops. -/
  | notModelled (mnemonic : String)
  deriving DecidableEq, Repr

/-! ### Reset values -/

/-- A tachometer line at reset: the pin reads low (DESIGN CHOICE, notes/assumptions/6.md), the filtered level follows
it without an edge (R23). -/
def LineState.reset : LineState := { raw := false, filtered := false, candidate := none }

/-- The defaults of R185. -/
def Settings.default : Settings :=
  { pprT1 := 1024, pprT2 := 1024, circT1 := 2890000, circT2 := 2890000, primary := 0, glitchUs := 4, slideTol := 20,
    backtrackMm := 100, latencyL := 0, latencyR := 0, latencyI := 0, latencyM := 0, staleMs := 20,
    alignWaitUs := 2000, holdLimit := 8, headSpan := 143500, nominalGauge := 143500, cantBase := 150000,
    levelHalf := 20, alignHalf := 20, twistBase := 12, leakShift := 10, vMin := 4167, captureMm := 20000,
    slewMm := 10, mismatchLimit := 3, gapTol := 2, maxRecordPoints := 400, defaultClass := 0, presenceMs := 500,
    badFrameLimit := 4, yieldMs := 1000 }

/-- A channel at reset: q and r from the default settings, 2 890 000 = 2822 × 1024 + 272 (R23). -/
def Tach.reset : Tach := { q := 2822, r := 272, rem := 0, dist := 0, glitches := 0 }

/-- ODO at power-on and RESETn (R23). -/
def Odo.reset : Odo :=
  { lines := ⟨LineState.reset, LineState.reset, LineState.reset, LineState.reset⟩,
    tach := ⟨Tach.reset, Tach.reset⟩, direction := .forward, runDistance := 0, highWater := 0, eventRec := none,
    history := [], state := .normal, believed := .t1, window := none, backtrack := false, pendingSeam := false,
    lastSpeed := 0, lastCrossing := 0, judged := 0, discarded := 0, disagreeing := 0, agreeRun := 0,
    disagreeRun := 0, spacingOwed := 0, spacingHigh := false, spacingSince := 0 }

/-- A source at power-on and RESETn (R42); its receiver reports link up (DESIGN CHOICE, notes/assumptions/7.md). -/
def SourceUnit.reset : SourceUnit :=
  { linkUp := true, state := .absent, deadline := none, prevSeq := none, prevStamp := none, badFrames := 0,
    correctedHeaders := 0, kindMismatches := 0, linkLosses := 0, missing := 0, nonmonotone := 0, spotLosses := 0,
    clampedSamples := 0, overrun := 0, late := 0, weakReads := 0, passedReads := 0 }

/-- INTAKE at power-on and RESETn (R42). -/
def Intake.reset : Intake :=
  { units := ⟨SourceUnit.reset, SourceUnit.reset, SourceUnit.reset, SourceUnit.reset⟩, queueL := [], queueR := [],
    queueI := [], refTime := none }

/-- GRID's part of a source with hold count and counters at 0 (R60). -/
def GridSource.reset : GridSource := { holdCount := 0, heldPoints := 0, voidPoints := 0, deadlinePoints := 0 }

/-- GRID at power-on, RESETn and RESET_PART (R58, R60). -/
def Grid.reset : Grid :=
  { waiting := [], deadline := none, units := ⟨GridSource.reset, GridSource.reset, GridSource.reset⟩,
    clampedPoints := 0, finished := false }

/-- GEO at power-on, RESETn, RESET_PART and START_RUN (R85, R89). -/
def Geo.reset : Geo :=
  { low := .outside, vl := ⟨0, 0⟩, vr := ⟨0, 0⟩, lat := ⟨0, 0⟩, chord := [], cants := [], tailDone := false,
    seams := 0, lowEntries := 0, clampsVL := 0, clampsVR := 0, clampsLat := 0,
    valueClamps := ⟨0, 0, 0, 0, 0, 0, 0, 0⟩ }

/-- STORE at power-on and RESETn (R113). -/
def Store.reset : Store :=
  { slots := [], w := none, f := none, c := none, overwritten := 0, streams := ⟨none, none, none, none⟩ }

/-- POS at power-on and RESETn (R134). -/
def Pos.reset : Pos :=
  { base := 0, sense := .rising, applied := 0, target := 0, state := .unfixed, mismatch := 0,
    pendingRebase := false, lastFix := none, lastChainage := none, markers := [], acceptedFixes := 0,
    mismatches := 0, markerRebases := 0, manualFixes := 0, idleReads := 0, earlyReads := 0, unknownReads := 0,
    repeatReads := 0, outOfRange := 0, chainageLimits := 0 }

/-- The limits of a parameter with every level disabled (R143). -/
def Limits.zero : Limits := { hi1 := 0, hi2 := 0, hi3 := 0, lo1 := 0, lo2 := 0, lo3 := 0 }

/-- A threshold set with every level disabled (R143). -/
def thresholdsZero : PerParam Limits :=
  ⟨Limits.zero, Limits.zero, Limits.zero, Limits.zero, Limits.zero, Limits.zero, Limits.zero, Limits.zero⟩

/-- CLS at power-on and RESETn (R150). -/
def Cls.reset : Cls :=
  { sections := [], thresholds := Vector.replicate 8 thresholdsZero, editCount := 0, loads := 0, inSection := 0,
    defaulted := 0 }

/-- The grouping state with no open record, a clean count of 0 and no length mark (R154). -/
def Group.reset : Group := { current := none, clean := 0, lengthMark := none }

/-- EXM at power-on, RESETn, RESET_PART and START_RUN (R172, R174). -/
def Exm.reset : Exm :=
  { records := [], nextId := 1,
    groups := ⟨Group.reset, Group.reset, Group.reset, Group.reset, Group.reset, Group.reset, Group.reset,
      Group.reset⟩,
    pointsJudged := 0, exceedingPoints := 0, suppressedPoints := 0, recordsOpened := 0, recordsClosed := 0,
    evicted := 0, dropped := 0, urgentRecords := 0, acknowledgements := 0, urgent := false }

/-- RUN at power-on and RESETn (R191). -/
def Run.reset : Run :=
  { state := .idle, number := 0, record := none, pendingEnd := none, settings := Settings.default, loadCount := 0 }

/-- The default link options (R214). -/
def LinkOptions.default : LinkOptions :=
  { maxReplyWords := 32, noticeMask := 0, levelMask := 0, attentionMask := 0 }

/-- A client port at power-on and RESETn (R209). -/
def Port.reset : Port :=
  { state := .offline, inbox := [], inService := none, replies := [], notices := [], linkErrors := 0, txSeq := 0,
    rxSeq := none, presenceAt := none, badRun := 0, attention := 0, attn := false, options := LinkOptions.default,
    sending := none, badFrames := 0, correctedHeaders := 0, sequenceGaps := 0, inboxDrops := 0, lostNotices := 0,
    presenceTimeouts := 0, bars := 0, barredDrops := 0 }

/-- SVC at power-on and RESETn (R217). -/
def Svc.reset : Svc := { holder := none, claimant := none, yieldAt := none }

/-- The part right after power-on or RESETn, with no command waiting. -/
def State.reset : State :=
  { now := 0, odo := Odo.reset, intake := Intake.reset, grid := Grid.reset, geo := Geo.reset, store := Store.reset,
    pos := Pos.reset, cls := Cls.reset, exm := Exm.reset, run := Run.reset,
    ports := ⟨Port.reset, Port.reset, Port.reset, Port.reset⟩, svc := Svc.reset, freeCount := 0, pending := [] }

end Sys2Proof.Machine
end

