-- ==== Sys2Proof/Machine/Arith.lean ====
section
/-!
DEFINITION. The arithmetic of the rules (R1), the limits that the spec gives its counters and lists, and the words in
which numbers are sent (00 section 0.4.3).
-/

namespace Sys2Proof

/-- 0 to 3. -/
def PortId.code : PortId → Nat
  | .p0 => 0
  | .p1 => 1
  | .p2 => 2
  | .p3 => 3

/-- 0 HEAD_L, 1 HEAD_R, 2 INERTIAL, 3 MARKER (R223). -/
def Source.code : Source → Nat
  | .headL => 0
  | .headR => 1
  | .inertial => 2
  | .marker => 3

/-- 0 T1, 1 T2 (R223). -/
def Channel.code : Channel → Nat
  | .t1 => 0
  | .t2 => 1

/-- The ports in order of number. -/
def PortId.all : List PortId := [.p0, .p1, .p2, .p3]

/-- The lines in the order T1A, T1B, T2A, T2B. -/
def TachLine.all : List TachLine := [.t1A, .t1B, .t2A, .t2B]

end Sys2Proof

namespace Sys2Proof.Machine

/-! ### Rounding and limits (R1) -/

/-- The quotient `a / b` to the nearest integer, ties away from zero (R1). -/
def roundDiv (a : Int) (b : Nat) : Int :=
  let q : Int := ((2 * a.natAbs + b) / (2 * b) : Nat)
  if a < 0 then -q else q

/-- `a / b` toward zero (R1). -/
def truncDiv (a : Int) (b : Int) : Int := Int.tdiv a b

/-- The value limited to `lo` to `hi`: the nearer limit when it lies beyond one. -/
def limit (lo hi x : Int) : Int := if x < lo then lo else if hi < x then hi else x

/-- Whether `limit` would replace the value. -/
def beyond (lo hi x : Int) : Bool := decide (x < lo) || decide (hi < x)

/-- Adds to a counter that saturates at 65 535. -/
def addSat16 (n k : Nat) : Nat := if 65535 < n + k then 65535 else n + k

/-- Increments a counter that saturates at 65 535. -/
def inc16 (n : Nat) : Nat := addSat16 n 1

/-- Adds to a count that saturates at 4 294 967 295 (R100). -/
def addSat32 (n k : Nat) : Nat := if 4294967295 < n + k then 4294967295 else n + k

/-- The lowest signed 32-bit value. -/
def int32Min : Int := -2147483648

/-- The highest signed 32-bit value. -/
def int32Max : Int := 2147483647

/-- Whether a value lies in the signed 32-bit range. -/
def inInt32 (x : Int) : Bool := decide (int32Min ≤ x) && decide (x ≤ int32Max)

/-! ### Numbers of the spec -/

/-- The value at which the timebase wraps: 2^48 - 1 (R2). -/
def timebaseEnd : Nat := 281474976710655

/-- The part answers on its links no earlier than 2 ms after reset (R191), in µs. -/
def answerDelay : Nat := 2000

/-- The grid: one point every 250 000 µm (00 section 0.4.5). -/
def gridStep : Int := 250000

/-- The advance at which a comparison window closes, µm (R9). -/
def windowLength : Nat := 1000000

/-- SPACING's high time and least low time, µs (R19). -/
def spacingTime : Nat := 10

/-- The most pairs of the distance history (R8). -/
def historyCapacity : Nat := 2048

/-- The most entries of a sample queue (R36). -/
def sampleCapacity : Nat := 32

/-- The most entries of the chord history (R71). -/
def chordCapacity : Nat := 161

/-- The most entries of the cant history (R74). -/
def cantCapacity : Nat := 41

/-- The slots of the point store (R90). -/
def ringSize : Nat := 4096

/-- The most entries of the marker table (R117). -/
def markerCapacity : Nat := 512

/-- The most entries of the section table (R135). -/
def sectionCapacity : Nat := 128

/-- The most records of the exceedance list (R162). -/
def recordCapacity : Nat := 256

/-- The most requests of an inbox (R202). -/
def inboxCapacity : Nat := 4

/-- The most frames and reservations of a reply queue (R202). -/
def replyCapacity : Nat := 4

/-- The most frames of a notice queue (R202). -/
def noticeCapacity : Nat := 16

/-- The free slots of the notice queue that a POINTS frame needs (R103). -/
def pointsFreeSlots : Nat := 5

/-- The larger half-chord, m_max (04). -/
def Settings.mMax (c : Settings) : Nat := max c.levelHalf c.alignHalf

/-! ### Words -/

/-- The low 32 bits of a count or index. -/
def wordOfNat (n : Nat) : Word := BitVec.ofNat 32 n

/-- The low 32 bits of a signed value, two's complement. -/
def wordOfInt (x : Int) : Word := BitVec.ofInt 32 x

/-- A yes-or-no item: 1 or 0 (R215). -/
def wordOfBool (b : Bool) : Word := if b then 1#32 else 0#32

/-- A word with the 16-bit halves given (05 section 5.2). -/
def wordOfHalves (high low : BitVec 16) : Word := high ++ low

/-- A value of two words, low word first (R177, R215). -/
def twoWords (n : Nat) : List Word := [wordOfNat n, wordOfNat (n / 4294967296)]

/-- A signed value of two words, low word first (R215). -/
def twoWordsInt (x : Int) : List Word := [wordOfInt x, wordOfInt (x / 4294967296)]

/-- An optional one-word value; absent reads FFFFFFFFh (R215). -/
def wordOrAbsent (o : Option Nat) : Word := (o.map wordOfNat).getD Word.absent

/-- A 16-bit signed field of a word. -/
def signedHalf (w : Word) (high : Bool) : Int :=
  if high then (w.extractLsb' 16 16).toInt else (w.extractLsb' 0 16).toInt

/-- The word at a place of a payload, counted from 1 as the rules count (0 beyond its end). -/
def payloadWord (payload : List Word) (n : Nat) : Word := payload.getD (n - 1) 0#32

/-- A mask word from the members it lists (00 section 0.4.6, R215). -/
def maskOf (members : List (Nat × Bool)) : Word :=
  members.foldl (fun acc m => if m.2 then acc ||| (1#32 <<< m.1) else acc) 0#32

/-! ### Codes of the states (05 section 5.2, R168, R178, R213, R215) -/

/-- 0 NORMAL, 1 SLIDE, 2 FAULT (05 section 5.2). -/
def OdoState.code : OdoState → Nat
  | .normal => 0
  | .slide => 1
  | .fault => 2

/-- 0 UNFIXED, 1 FIXED, 2 DOUBTFUL (05 section 5.2). -/
def LocState.code : LocState → Nat
  | .unfixed => 0
  | .fixed => 1
  | .doubtful => 2

/-- 0 ABSENT, 1 LIVE, 2 STALE (R215). -/
def SourceState.code : SourceState → Nat
  | .absent => 0
  | .live => 1
  | .stale => 2

/-- 0 OFFLINE, 1 SILENT, 2 ACTIVE, 3 BARRED (R215). -/
def PortState.code : PortState → Nat
  | .offline => 0
  | .silent => 1
  | .active => 2
  | .barred => 3

/-- 0 IDLE, 1 RUNNING, 2 FINISHING (R178, R213). -/
def RunState.code : RunState → Nat
  | .idle => 0
  | .running => 1
  | .finishing _ => 2

/-- 0 FORMING, 1 TAILING, 2 CLOSING (R215). -/
def RunStage.code : RunStage → Nat
  | .forming => 0
  | .tailing => 1
  | .closing => 2

/-- 0 OUT, 1 IN (R215). -/
def LowSpeed.code : LowSpeed → Nat
  | .outside => 0
  | .inside => 1

/-- 0 FORWARD, 1 REVERSE (09 section 9.2). -/
def Direction.code : Direction → Nat
  | .forward => 0
  | .reverse => 1

/-- 0 for +1, 1 for -1 (09 section 9.2). -/
def Sense.code : Sense → Nat
  | .rising => 0
  | .falling => 1

/-- +1 or -1 (00 section 0.4.5). -/
def Sense.sign : Sense → Int
  | .rising => 1
  | .falling => -1

/-- 0 GOOD, 1 HELD, 2 CLAMPED, 3 VOID (00 section 0.4.7). -/
def Status.code : Status → Nat
  | .good => 0
  | .held => 1
  | .clamped => 2
  | .void => 3

/-- Of two statuses, the first in the order VOID, CLAMPED, HELD, GOOD (R3). -/
def Status.join (a b : Status) : Status := if a.code < b.code then b else a

/-- The status reported when several apply (R3). -/
def Status.joinAll (l : List Status) : Status := l.foldl Status.join .good

/-- 0 HIGH, 1 LOW (R168). -/
def Side.code : Side → Nat
  | .high => 0
  | .low => 1

/-- 0 NOT_URGENT, 1 UNACKED, 2 ACKED (R168). -/
def UrgentState.code : UrgentState → Nat
  | .notUrgent => 0
  | .unacked => 1
  | .acked => 2

/-- 0 BELOW, 1 SIDE, 2 LENGTH, 3 VOID, 4 SUPPRESSED, 5 RUN_END (R168). -/
def CloseReason.code : CloseReason → Nat
  | .below => 0
  | .side => 1
  | .length => 2
  | .void => 3
  | .suppressed => 4
  | .runEnd => 5

/-- The parameter's number (00 section 0.4.6). -/
def Param.code : Param → Nat
  | .gauge => 0
  | .cant => 1
  | .levelL => 2
  | .levelR => 3
  | .alignL => 4
  | .alignR => 5
  | .twist => 6
  | .curv => 7

/-- The parameters in ascending order of number. -/
def Param.all : List Param := [.gauge, .cant, .levelL, .levelR, .alignL, .alignR, .twist, .curv]

/-- The bit of a notice class in the attention set and mask (10 section 10.6). -/
def NoticeClass.bit : NoticeClass → Nat
  | .points => 0
  | .gap => 1
  | .streamEnd => 2
  | .exceedance => 3
  | .urgent => 4
  | .urgentAcked => 5
  | .authority => 6
  | .yieldAsked => 7
  | .run => 8
  | .location => 9
  | .source => 10
  | .odometry => 11

/-- The kind code of a notice: 60h to 6Bh (11 section 11.1). -/
def NoticeClass.kind (c : NoticeClass) : Byte := BitVec.ofNat 8 (0x60 + c.bit)

/-- The kind code of an answer: 40h or 41h (11 section 11.1). -/
def AnswerKind.code : AnswerKind → Byte
  | .reply => 0x40#8
  | .refuse => 0x41#8

/-! ### Access to the fixed collections -/

/-- The value of one port. -/
def PerPort.get {α : Type} (v : PerPort α) : PortId → α
  | .p0 => v.p0
  | .p1 => v.p1
  | .p2 => v.p2
  | .p3 => v.p3

/-- The collection with one port's value replaced. -/
def PerPort.set {α : Type} (v : PerPort α) (p : PortId) (x : α) : PerPort α :=
  match p with
  | .p0 => { v with p0 := x }
  | .p1 => { v with p1 := x }
  | .p2 => { v with p2 := x }
  | .p3 => { v with p3 := x }

/-- The value of one source. -/
def PerSource.get {α : Type} (v : PerSource α) : Source → α
  | .headL => v.headL
  | .headR => v.headR
  | .inertial => v.inertial
  | .marker => v.marker

/-- The collection with one source's value replaced. -/
def PerSource.set {α : Type} (v : PerSource α) (c : Source) (x : α) : PerSource α :=
  match c with
  | .headL => { v with headL := x }
  | .headR => { v with headR := x }
  | .inertial => { v with inertial := x }
  | .marker => { v with marker := x }

/-- The value of one channel. -/
def PerChannel.get {α : Type} (v : PerChannel α) : Channel → α
  | .t1 => v.t1
  | .t2 => v.t2

/-- The collection with one channel's value replaced. -/
def PerChannel.set {α : Type} (v : PerChannel α) (c : Channel) (x : α) : PerChannel α :=
  match c with
  | .t1 => { v with t1 := x }
  | .t2 => { v with t2 := x }

/-- The value of one line. -/
def PerLine.get {α : Type} (v : PerLine α) : TachLine → α
  | .t1A => v.t1A
  | .t1B => v.t1B
  | .t2A => v.t2A
  | .t2B => v.t2B

/-- The collection with one line's value replaced. -/
def PerLine.set {α : Type} (v : PerLine α) (l : TachLine) (x : α) : PerLine α :=
  match l with
  | .t1A => { v with t1A := x }
  | .t1B => { v with t1B := x }
  | .t2A => { v with t2A := x }
  | .t2B => { v with t2B := x }

/-- The value of one parameter. -/
def PerParam.get {α : Type} (v : PerParam α) : Param → α
  | .gauge => v.gauge
  | .cant => v.cant
  | .levelL => v.levelL
  | .levelR => v.levelR
  | .alignL => v.alignL
  | .alignR => v.alignR
  | .twist => v.twist
  | .curv => v.curv

/-- The collection with one parameter's value replaced. -/
def PerParam.set {α : Type} (v : PerParam α) (p : Param) (x : α) : PerParam α :=
  match p with
  | .gauge => { v with gauge := x }
  | .cant => { v with cant := x }
  | .levelL => { v with levelL := x }
  | .levelR => { v with levelR := x }
  | .alignL => { v with alignL := x }
  | .alignR => { v with alignR := x }
  | .twist => { v with twist := x }
  | .curv => { v with curv := x }

/-- The same value for every parameter. -/
def PerParam.const {α : Type} (x : α) : PerParam α := ⟨x, x, x, x, x, x, x, x⟩

end Sys2Proof.Machine
end

