-- ==== Sys2Proof/Machine/Frame.lean ====
section
/-!
DEFINITION. The frame layer of the client and sensor links (10 section 10.1): the header and its code (R193, R194), the
byte count and the CRC (R195), the bytes on the wire, and the kind codes (11 section 11.1).
-/

namespace Sys2Proof.Machine

/-! ### The header (R193, R194) -/

/-- Bit `i` of a header, as 0 or 1 of the exclusive-or. -/
def headerBit (h : Word) (i : Nat) : Bool := h.getLsbD i

/-- The positions 1 to 31 whose number has bit `j` set (R193). -/
def coveredPositions (j : Nat) : List Nat := (List.range 32).filter fun i => i.testBit j

/-- Whether the header holds an odd number of ones at the positions listed. -/
def oddOnes (h : Word) (positions : List Nat) : Bool :=
  positions.foldl (fun acc i => xor acc (headerBit h i)) false

/-- Bit `j` of the syndrome: the positions whose number has bit `j` set hold an odd number of ones (R194). -/
def syndromeBit (h : Word) (j : Nat) : Bool := oddOnes h (coveredPositions j)

/-- The syndrome, 0 to 31 (R194). -/
def syndrome (h : Word) : Nat :=
  (syndromeBit h 0).toNat + 2 * (syndromeBit h 1).toNat + 4 * (syndromeBit h 2).toNat +
    8 * (syndromeBit h 3).toNat + 16 * (syndromeBit h 4).toNat

/-- Whether the whole header holds an odd number of ones: the parity is bad (R194). -/
def parityBad (h : Word) : Bool := oddOnes h (List.range 32)

/-- The header with one bit set to the value given. -/
def putBit (h : Word) (i : Nat) (b : Bool) : Word :=
  if b then h ||| (1#32 <<< i) else h

/-- The header with one bit inverted (R194). -/
def flipBit (h : Word) (i : Nat) : Word := h ^^^ (1#32 <<< i)

/-- The fields of a header: kind, tag, length in words and link sequence (10 section 10.1.1). -/
structure HeaderFields where
  kind : Byte
  tag : Byte
  length : Byte
  seq : BitVec 2
  deriving DecidableEq, Repr

/-- The header positions of the kind, bits 7 to 0 (10 section 10.1.1). -/
def kindPositions : List Nat := [3, 5, 6, 7, 9, 10, 11, 12]

/-- Tag, bits 7 to 0. -/
def tagPositions : List Nat := [13, 14, 15, 17, 18, 19, 20, 21]

/-- Length, bits 7 to 0. -/
def lengthPositions : List Nat := [22, 23, 24, 25, 26, 27, 28, 29]

/-- Link sequence, bits 1 and 0. -/
def seqPositions : List Nat := [30, 31]

/-- Places a field into a header, its most significant bit at the first position. -/
def placeField {w : Nat} (h : Word) (positions : List Nat) (field : BitVec w) : Word :=
  positions.zipIdx.foldl (fun acc p => putBit acc p.1 (field.getLsbD (w - 1 - p.2))) h

/-- Reads a field from a header, its most significant bit at the first position. -/
def readField (w : Nat) (h : Word) (positions : List Nat) : BitVec w :=
  positions.foldl (fun (acc : BitVec w) i => (acc <<< 1) ||| BitVec.ofNat w (headerBit h i).toNat) 0

/-- The data bits of a header in their positions, every check bit 0. -/
def placeFields (f : HeaderFields) : Word :=
  placeField (placeField (placeField (placeField 0#32 kindPositions f.kind) tagPositions f.tag) lengthPositions
    f.length) seqPositions f.seq

/-- Sets check bit `j`, at position 2^j, so that the positions whose number has bit `j` set hold an even number of
ones (R193). -/
def setCheck (h : Word) (j : Nat) : Word := putBit h (2 ^ j) (syndromeBit h j)

/-- Sets bit 0 so that the whole header holds an even number of ones (R193). -/
def setParity (h : Word) : Word := putBit h 0 (parityBad h)

/-- The header that the part builds (R193). -/
def buildHeader (f : HeaderFields) : Word :=
  setParity ((List.range 5).foldl setCheck (placeFields f))

/-- The fields of a header (10 section 10.1.1). -/
def headerFields (h : Word) : HeaderFields :=
  { kind := readField 8 h kindPositions, tag := readField 8 h tagPositions,
    length := readField 8 h lengthPositions, seq := readField 2 h seqPositions }

/-- What the receiver makes of a header (R194). -/
inductive HeaderCheck where
  | clean (fields : HeaderFields)
  | corrected (fields : HeaderFields)
  | uncorrectable
  deriving DecidableEq, Repr

/-- The receiver's check of a header: clean, one bit inverted, or uncorrectable (R194). -/
def checkHeader (h : Word) : HeaderCheck :=
  if parityBad h then .corrected (headerFields (flipBit h (syndrome h)))
  else if syndrome h = 0 then .clean (headerFields h)
  else .uncorrectable

/-! ### Bytes and words (00 section 0.4.3) -/

/-- The four bytes of a word, least significant first. -/
def wordBytes (w : Word) : List Byte :=
  [w.extractLsb' 0 8, w.extractLsb' 8 8, w.extractLsb' 16 8, w.extractLsb' 24 8]

/-- A word from its four bytes, least significant first. -/
def wordOfBytes (a b c d : Byte) : Word := d ++ c ++ b ++ a

/-- The words of a sequence of bytes, four to a word; an incomplete last word is left out. -/
def wordsOfBytes : List Byte → List Word
  | a :: b :: c :: d :: rest => wordOfBytes a b c d :: wordsOfBytes rest
  | _ => []

/-! ### The CRC (R195) -/

/-- One bit through the CRC register: shift left, then combine with 8005h when bit 15 and the data bit differed. -/
def crcBit (reg : BitVec 16) (bit : Bool) : BitVec 16 :=
  if xor reg.msb bit then (reg <<< 1) ^^^ 0x8005#16 else reg <<< 1

/-- One byte through the CRC register, most significant bit first. -/
def crcByte (reg : BitVec 16) (b : Byte) : BitVec 16 :=
  [7, 6, 5, 4, 3, 2, 1, 0].foldl (fun r i => crcBit r (b.getLsbD i)) reg

/-- The CRC of the payload bytes, from FFFFh, with no final inversion (R195). -/
def crc (bytes : List Byte) : BitVec 16 := bytes.foldl crcByte 0xFFFF#16

/-- The CRC's two bytes, least significant first. -/
def crcBytes (c : BitVec 16) : List Byte := [c.extractLsb' 0 8, c.extractLsb' 8 8]

/-! ### Whole frames -/

/-- The bytes between the symbols of a frame that the part sends (R193, R195, R206). -/
def frameBytes (kind tag : Byte) (seq : BitVec 2) (payload : List Word) : List Byte :=
  let head := wordBytes (buildHeader { kind, tag, length := BitVec.ofNat 8 payload.length, seq })
  let body := payload.flatMap wordBytes
  if payload = [] then head else head ++ body ++ crcBytes (crc body)

/-- A frame that passed R194 and R195. -/
structure RxFrame where
  kind : Byte
  tag : Byte
  seq : BitVec 2
  payload : List Word
  deriving DecidableEq, Repr

/-- Why a frame is bad (R194, R195). -/
inductive BadCause where
  | header | byteCount | crc
  deriving DecidableEq, Repr

/-- What the receiver makes of a frame: whether its header was corrected, and the frame or why it is bad. -/
structure Reception where
  corrected : Bool
  result : Except BadCause RxFrame

/-- The checks of R195 on a frame whose header decodes to the fields given. -/
def checkBody (f : HeaderFields) (body : List Byte) : Except BadCause RxFrame :=
  let n := 4 * f.length.toNat
  let frame (ws : List Word) : RxFrame := { kind := f.kind, tag := f.tag, seq := f.seq, payload := ws }
  if f.length = 0 then
    if body = [] then .ok (frame []) else .error .byteCount
  else if body.length ≠ n + 2 then .error .byteCount
  else if body.drop n = crcBytes (crc (body.take n)) then .ok (frame (wordsOfBytes (body.take n)))
  else .error .crc

/-- The receiver's examination of the bytes between a start and an end symbol (R192, R194, R195). -/
def receive : List Byte → Reception
  | a :: b :: c :: d :: body =>
    match checkHeader (wordOfBytes a b c d) with
    | .clean f => { corrected := false, result := checkBody f body }
    | .corrected f => { corrected := true, result := checkBody f body }
    | .uncorrectable => { corrected := false, result := .error .header }
  | _ => { corrected := false, result := .error .byteCount }

/-! ### Kind codes (11 section 11.1) -/

/-- The kinds of request. -/
inductive RequestKind where
  | presence | echo | identify | setLink | readStatus | readTable | readPoints | streamPoints | stopStream
  | readExceedances | ackUrgent | claim | yield | keep | release | rejoin | loadSettings | loadThresholds
  | sectionPut | sectionDrop | sectionClear | markerPut | markerDrop | markerClear | startRun | endRun | manualFix
  | resetPart
  deriving DecidableEq, Repr

/-- The code of a request kind, 01h to 1Ch. -/
def RequestKind.code : RequestKind → Byte
  | .presence => 0x01#8
  | .echo => 0x02#8
  | .identify => 0x03#8
  | .setLink => 0x04#8
  | .readStatus => 0x05#8
  | .readTable => 0x06#8
  | .readPoints => 0x07#8
  | .streamPoints => 0x08#8
  | .stopStream => 0x09#8
  | .readExceedances => 0x0A#8
  | .ackUrgent => 0x0B#8
  | .claim => 0x0C#8
  | .yield => 0x0D#8
  | .keep => 0x0E#8
  | .release => 0x0F#8
  | .rejoin => 0x10#8
  | .loadSettings => 0x11#8
  | .loadThresholds => 0x12#8
  | .sectionPut => 0x13#8
  | .sectionDrop => 0x14#8
  | .sectionClear => 0x15#8
  | .markerPut => 0x16#8
  | .markerDrop => 0x17#8
  | .markerClear => 0x18#8
  | .startRun => 0x19#8
  | .endRun => 0x1A#8
  | .manualFix => 0x1B#8
  | .resetPart => 0x1C#8

/-- Whether a kind code is a request kind, 01h to 1Ch (R211). -/
def isRequestKind (k : Byte) : Bool := decide (1 ≤ k.toNat) && decide (k.toNat ≤ 28)


end Sys2Proof.Machine

namespace Sys2Proof

/-- The kind codes of the sensor frames: HEAD_SAMPLE 80h, INERTIAL_SAMPLE 81h, MARKER_READ 82h. -/
def Source.frameKind : Source → Byte
  | .headL => 0x80#8
  | .headR => 0x80#8
  | .inertial => 0x81#8
  | .marker => 0x82#8

/-- The payload length of a source's frame kind, in words (02 section 2.1). -/
def Source.frameWords : Source → Nat
  | .headL => 2
  | .headR => 2
  | .inertial => 6
  | .marker => 2

end Sys2Proof
end

