-- ==== Sys2Proof/Machine/Ops.lean ====
section
/-!
DEFINITION. The shared operations on the client ports: attention (R207), offering a notice (R205), the reply queue and
its reservations (R203, R204), and the form of answers (R210, R211).
-/

namespace Sys2Proof.Machine

/-! ### Ports -/

/-- A port of the part. -/
def State.port (s : State) (p : PortId) : Port := s.ports.get p

/-- The part with one port replaced. -/
def State.setPort (s : State) (p : PortId) (q : Port) : State := { s with ports := s.ports.set p q }

/-- Applies an operation to every port. -/
def State.mapPorts (s : State) (f : Port → Port) : State :=
  { s with ports := ⟨f s.ports.p0, f s.ports.p1, f s.ports.p2, f s.ports.p3⟩ }

/-! ### Link errors and attention (R197, R207) -/

/-- The flags of the link error set, by their bit in the reported word (R197). -/
inductive LinkError where
  | headerCorrected | headerBad | crcBad | lengthBad | sequenceGap | inboxFull | noticeLost
  deriving DecidableEq, Repr

/-- The bit of a flag in the reported word (R197). -/
def LinkError.bit : LinkError → Nat
  | .headerCorrected => 0
  | .headerBad => 1
  | .crcBad => 2
  | .lengthBad => 3
  | .sequenceGap => 4
  | .inboxFull => 5
  | .noticeLost => 6

/-- The port with a link error flag set (R197). -/
def Port.setError (q : Port) (e : LinkError) : Port := { q with linkErrors := q.linkErrors ||| (1#7 <<< e.bit) }

/-- The port with its attention set replaced; ATTN is asserted while the port is ACTIVE and the set is not empty
(R207). -/
def Port.withAttention (q : Port) (a : BitVec 12) : Port :=
  { q with attention := a, attn := decide (q.state = .active) && decide (a ≠ 0#12) }

/-- Whether a notice class calls the client: it is in the attention mask, or is URGENT (R207). -/
def Port.calls (q : Port) (c : NoticeClass) : Bool :=
  q.options.attentionMask.getLsbD c.bit || decide (c = .urgent)

/-- The attention set after a notice of a class is offered (R207). -/
def Port.attend (q : Port) (c : NoticeClass) : Port :=
  if q.calls c then q.withAttention (q.attention ||| (1#12 <<< c.bit)) else q

/-- The notice queue after a notice is offered: appended, or lost at a full queue (R205). -/
def Port.enqueue (q : Port) (n : Notice) : Port :=
  if q.notices.length < noticeCapacity then { q with notices := q.notices ++ [n] }
  else { q.setError .noticeLost with lostNotices := inc16 q.lostNotices }

/-- A notice offered to a port: only an ACTIVE port takes it (R205, R207). -/
def Port.offer (q : Port) (n : Notice) : Port :=
  if q.state = .active then (q.attend n.cls).enqueue n else q

/-- Offers a notice to one port. -/
def offerTo (p : PortId) (n : Notice) (s : State) : State := s.setPort p ((s.port p).offer n)

/-- Offers a notice, of tag 0, to every ACTIVE port that the rule selects (R223). -/
def offerAll (selects : Port → Bool) (cls : NoticeClass) (payload : List Word) (s : State) : State :=
  s.mapPorts fun q => if selects q then q.offer { cls, tag := 0#8, payload } else q

/-- Selects every port (R223: "Every ACTIVE port"). -/
def everyPort (_ : Port) : Bool := true

/-- Selects the ports whose notice mask holds LOCATION (bit 0, R214). -/
def wantsLocation (q : Port) : Bool := q.options.noticeMask.getLsbD 0

/-- Selects the ports whose notice mask holds SOURCE (bit 1, R214). -/
def wantsSource (q : Port) : Bool := q.options.noticeMask.getLsbD 1

/-- Selects the ports whose notice mask holds ODOMETRY (bit 2, R214). -/
def wantsOdometry (q : Port) : Bool := q.options.noticeMask.getLsbD 2

/-- Selects the ports whose exceedance level mask holds a level of 1 to 3 (R214). -/
def wantsLevel (level : Nat) (q : Port) : Bool := q.options.levelMask.getLsbD (level - 1)

/-! ### The reply queue (R203, R204) -/

/-- Places an answer in the reserved slot. -/
def fillReserved (a : Answer) : List ReplySlot → List ReplySlot
  | .reserved :: rest => .frame a :: rest
  | slot :: rest => slot :: fillReserved a rest
  | [] => []

/-- Releases the reserved slot. -/
def dropReserved : List ReplySlot → List ReplySlot
  | .reserved :: rest => rest
  | slot :: rest => slot :: dropReserved rest
  | [] => []

/-- Queues an answer in the slot reserved for it (R204). -/
def answer (p : PortId) (a : Answer) (s : State) : State :=
  s.setPort p { s.port p with replies := fillReserved a (s.port p).replies }

/-- Releases the reservation of a request that has no answer (R204). -/
def releaseReservation (p : PortId) (s : State) : State :=
  s.setPort p { s.port p with replies := dropReserved (s.port p).replies }

/-- Queues a REPLY; `rest` is its payload after the link error set. -/
def reply (p : PortId) (tag : Byte) (rest : List Word) (s : State) : State :=
  answer p { kind := .reply, tag, rest } s

/-- The reasons of a refusal (R211). -/
inductive Reason where
  | notHolder | wrongState | range | tableFull | overlap | tooClose | unknownId | contested | kept | noClaim
  | expired | notReady | badPayload | unknownKind
  deriving DecidableEq, Repr

/-- The code of a reason (R211). -/
def Reason.code : Reason → Nat
  | .notHolder => 1
  | .wrongState => 2
  | .range => 3
  | .tableFull => 4
  | .overlap => 5
  | .tooClose => 6
  | .unknownId => 7
  | .contested => 8
  | .kept => 9
  | .noClaim => 10
  | .expired => 11
  | .notReady => 12
  | .badPayload => 13
  | .unknownKind => 14

/-- Queues a REFUSE: reason code, field number, and the kind of the refused request (R211). -/
def refuse (p : PortId) (kind tag : Byte) (reason : Reason) (field : Nat) (s : State) : State :=
  answer p { kind := .refuse, tag, rest := [wordOfNat reason.code, wordOfNat field, kind.setWidth 32] } s

/-- Puts a request of a port in service, or ends its service (R210). -/
def setInService (p : PortId) (w : Option InService) (s : State) : State :=
  s.setPort p { s.port p with inService := w }

/-- SVC may take the port's oldest request: none is in service and a reply slot is free (R203). -/
def Port.mayTake (q : Port) : Bool := q.inService.isNone && decide (q.replies.length < replyCapacity)

/-- The port after its oldest request has been taken: removed from the inbox, one reply slot reserved (R203). -/
def Port.taken (q : Port) (rest : List Request) : Port :=
  { q with inbox := rest, replies := q.replies ++ [.reserved] }

/-- SVC serves the oldest request of a port, when its kind is the one named and SVC may take it; otherwise the service
does not take place and nothing changes (R203, R210, notes/assumptions/2.md). -/
def serveWhen (isKind : Byte → Bool) (p : PortId) (body : Request → State → State) (s : State) : State :=
  match (s.port p).inbox with
  | r :: rest =>
    if isKind r.kind && (s.port p).mayTake then body r (s.setPort p ((s.port p).taken rest)) else s
  | [] => s

/-- Serves a request of one kind whose payload length must be one that the catalogue permits (R211, order 1 and 2). -/
def serveKind (k : RequestKind) (lengthOk : Nat → Bool) (p : PortId) (body : Request → State → State) (s : State) :
    State :=
  serveWhen (fun c => decide (c = k.code)) p
    (fun r t => if lengthOk r.payload.length then body r t else refuse p r.kind r.tag .badPayload 0 t) s

/-- As `serveKind`, for a kind that needs authority: the port holds it at service (R211, order 3). -/
def serveHolder (k : RequestKind) (lengthOk : Nat → Bool) (p : PortId) (body : Request → State → State) (s : State) :
    State :=
  serveKind k lengthOk p
    (fun r t => if t.svc.holder = some p then body r t else refuse p r.kind r.tag .notHolder 0 t) s

/-- A payload of exactly `n` words. -/
def exactly (n : Nat) (len : Nat) : Bool := decide (len = n)

/-- The most payload words of a frame built for a port, the link error set included (R214). -/
def maxWords (p : PortId) (s : State) : Nat := (s.port p).options.maxReplyWords

end Sys2Proof.Machine
end

