-- ==== Sys2Proof/Machine/Classes.lean ====
section
/-!
DEFINITION. CLS (chapter 7): lookups in the section table, judging a value against a threshold set, the protected
horizon, and the edits of the two tables.
-/

namespace Sys2Proof.Machine

/-! ### Lookups (R136) -/

/-- What a lookup gives: section id, class and suppress mask; the threshold set is that of the class (R136). -/
structure Classification where
  sectionId : Nat
  trackClass : Fin 8
  mask : BitVec 8
  deriving DecidableEq, Repr

/-- Whether a chainage lies in a section (R136). -/
def SectionEntry.holds (e : SectionEntry) (c : Int) : Bool := decide (e.start ≤ c) && decide (c < e.stop)

/-- The classification of a chainage (R136). -/
def classify (defaultClass : Nat) (sections : List SectionEntry) (c : Int) : Classification :=
  match sections.find? (·.holds c) with
  | some e => { sectionId := e.id, trackClass := e.trackClass, mask := e.mask.getD 0#8 }
  | none => { sectionId := 0, trackClass := Fin.ofNat 8 defaultClass, mask := 0#8 }

/-- The table's state after a lookup: one of the two lookup counters rises (R136). -/
def Cls.counted (t : Cls) (c : Int) : Cls :=
  if t.sections.any (·.holds c) then { t with inSection := inc16 t.inSection }
  else { t with defaulted := inc16 t.defaulted }

/-! ### Levels (R144) -/

/-- The highest level of 1 to 3 whose limit is not 0 and is exceeded by a magnitude; 0 when there is none (R144). -/
def levelOf (l1 l2 l3 : Nat) (x : Int) : Nat :=
  if l3 ≠ 0 ∧ (l3 : Int) < x then 3
  else if l2 ≠ 0 ∧ (l2 : Int) < x then 2
  else if l1 ≠ 0 ∧ (l1 : Int) < x then 1
  else 0

/-- The level and side of a value; none at level 0 (R144). -/
def Limits.judge (l : Limits) (v : Int) : Option (Nat × Side) :=
  let high := levelOf l.hi1 l.hi2 l.hi3 v
  let low := levelOf l.lo1 l.lo2 l.lo3 (-v)
  if 0 < high then some (high, .high)
  else if 0 < low then some (low, .low)
  else none

/-! ### The protected horizon (R140) -/

/-- The protected horizon h; it exists while the run is RUNNING (R140). -/
def State.horizon (s : State) : Option Int :=
  if s.run.state = .running then s.pos.lastChainage.map fun c => c + s.pos.sense.sign * 200000 else none

/-- Whether a range lies wholly beyond the horizon, where one exists (R139, R140, R141). -/
def State.clearOfHorizon (s : State) (start stop : Int) : Bool :=
  match s.horizon with
  | some h =>
    match s.pos.sense with
    | .rising => decide (h ≤ start)
    | .falling => decide (stop ≤ h)
  | none => true

/-! ### Section edits (R138, R139, R141) -/

/-- The label characters of a SECTION_PUT, four to a word from word 7 on, the first in the least significant byte
(R138). -/
def labelBytes (payload : List Word) (n : Nat) : List Byte := ((payload.drop 6).flatMap wordBytes).take n

/-- Whether a label character lies in 20h to 7Eh (R138). -/
def labelChar (b : Byte) : Bool := decide (0x20 ≤ b.toNat) && decide (b.toNat ≤ 0x7E)

/-- What the checks of R138 make of a SECTION_PUT: the entry it asks for, or the refusal and its field. -/
def parseSection (payload : List Word) : Except (Reason × Nat) SectionEntry :=
  let id := (payloadWord payload 1).toNat
  let start := (payloadWord payload 2).toInt
  let stop := (payloadWord payload 3).toInt
  let cls := (payloadWord payload 4).toNat
  let mask := payloadWord payload 5
  let len := payloadWord payload 6
  if ¬(1 ≤ id ∧ id ≤ 65535) then .error (.range, 1)
  else if 7 < cls then .error (.range, 4)
  else if mask ≠ Word.absent ∧ 256 ≤ mask.toNat then .error (.range, 5)
  else if len ≠ Word.absent ∧ 16 < len.toNat then .error (.range, 6)
  else
    let n := if len = Word.absent then 0 else len.toNat
    let label := labelBytes payload n
    if payload.length ≠ 6 + (n + 3) / 4 then .error (.badPayload, 0)
    else
      match label.findIdx? (fun b => !labelChar b) with
      | some i => .error (.range, 7 + i / 4)
      | none =>
        if ¬(start < stop) then .error (.range, 3)
        else
          .ok { id, start, stop, trackClass := Fin.ofNat 8 cls,
                mask := if mask = Word.absent then none else some (mask.setWidth 8),
                label := if len = Word.absent then none else some label }

/-- Whether two ranges overlap (R135). -/
def SectionEntry.overlaps (a b : SectionEntry) : Bool := decide (a.start < b.stop) && decide (b.start < a.stop)

/-- Puts an entry at its place in order of start (R135). -/
def insertSection (e : SectionEntry) : List SectionEntry → List SectionEntry
  | [] => [e]
  | x :: rest => if e.start < x.start then e :: x :: rest else x :: insertSection e rest

/-- The entry with an id. -/
def findSection (id : Nat) (l : List SectionEntry) : Option SectionEntry := l.find? fun e => decide (e.id = id)

/-- The table without the entry of an id. -/
def removeSection (id : Nat) (l : List SectionEntry) : List SectionEntry := l.filter fun e => decide (e.id ≠ id)

/-- The edit count, which wraps from 65 535 to 0 (R149). -/
def Cls.edited (t : Cls) (sections : List SectionEntry) : Cls :=
  { t with sections, editCount := (t.editCount + 1) % 65536 }

/-- The checks of R139 on an entry: the refusal of the first that fails. -/
def putRefusal (e : SectionEntry) (s : State) : Option Reason :=
  let others := removeSection e.id s.cls.sections
  let old := findSection e.id s.cls.sections
  if others.any e.overlaps then some .overlap
  else if old.isNone ∧ sectionCapacity ≤ s.cls.sections.length then some .tableFull
  else if !s.clearOfHorizon e.start e.stop then some .tooClose
  else
    match old with
    | some o => if s.clearOfHorizon o.start o.stop then none else some .tooClose
    | none => none

/-! ### Threshold sets (R143 to R146) -/

/-- Limit `i` of a LOAD_THRESHOLDS, 0 to 47 (R145). -/
def limitAt (payload : List Word) (i : Nat) : Nat :=
  let w := payloadWord payload (2 + i / 2)
  if i % 2 = 0 then (w.extractLsb' 0 16).toNat else (w.extractLsb' 16 16).toNat

/-- Whether limit `i` passes R145: at most 32 767 and, when not 0, greater than every earlier limit of its side that
is not 0. -/
def limitOk (payload : List Word) (i : Nat) : Bool :=
  let v := limitAt payload i
  let base := i - i % 3
  decide (v ≤ 32767) &&
    (decide (v = 0) || ((List.range (i % 3)).all fun k => decide (limitAt payload (base + k) < v)))

/-- The six limits of a parameter in a LOAD_THRESHOLDS (R145). -/
def limitsAt (payload : List Word) (p : Param) : Limits :=
  let at' (k : Nat) := limitAt payload (6 * p.code + k)
  { hi1 := at' 0, hi2 := at' 1, hi3 := at' 2, lo1 := at' 3, lo2 := at' 4, lo3 := at' 5 }

/-- The threshold set that a LOAD_THRESHOLDS carries (R145). -/
def thresholdsOf (payload : List Word) : PerParam Limits :=
  { gauge := limitsAt payload .gauge, cant := limitsAt payload .cant, levelL := limitsAt payload .levelL,
    levelR := limitsAt payload .levelR, alignL := limitsAt payload .alignL, alignR := limitsAt payload .alignR,
    twist := limitsAt payload .twist, curv := limitsAt payload .curv }

/-- The six limits of a parameter, in field order (R145). -/
def Limits.list (l : Limits) : List Nat := [l.hi1, l.hi2, l.hi3, l.lo1, l.lo2, l.lo3]

/-- Two limits to a word, the earlier in the low half (R145). -/
def pairWords : List Nat → List Word
  | a :: b :: rest => wordOfHalves (BitVec.ofNat 16 b) (BitVec.ofNat 16 a) :: pairWords rest
  | _ => []

/-- The 24 words of a threshold set, in the order of LOAD_THRESHOLDS (R148). -/
def thresholdWords (t : PerParam Limits) : List Word := pairWords (Param.all.flatMap fun p => (t.get p).list)

/-! ### Table reads (R147) -/

/-- Packs label characters four to a word, unused bytes 0 (R138, R147). -/
def packLabel : List Byte → List Word
  | [] => []
  | a :: b :: c :: d :: rest => wordOfBytes a b c d :: packLabel rest
  | [a, b, c] => [wordOfBytes a b c 0]
  | [a, b] => [wordOfBytes a b 0 0]
  | [a] => [wordOfBytes a 0 0 0]

/-- The words of a section entry in a table read (R147). -/
def SectionEntry.words (e : SectionEntry) : List Word :=
  let len : BitVec 16 := match e.label with
    | some l => BitVec.ofNat 16 l.length
    | none => 0xFFFF#16
  let mask : Word := match e.mask with
    | some m => m.setWidth 32
    | none => Word.absent
  [wordOfNat e.id, wordOfInt e.start, wordOfInt e.stop, wordOfHalves len (BitVec.ofNat 16 e.trackClass.val), mask] ++
    packLabel (e.label.getD [])

/-- As many whole entries as fit a number of words: how many, and their words. -/
def fitEntries : Nat → List (List Word) → Nat × List Word
  | _, [] => (0, [])
  | room, e :: rest =>
    if e.length ≤ room then
      let r := fitEntries (room - e.length) rest
      (r.1 + 1, e ++ r.2)
    else (0, [])

/-- The payload of a table read by position, after the link error set: entries held, next index, entries (R147,
R216). `room` is the port's max_reply_words. -/
def tableReply (entries : List (List Word)) (fromIndex room : Nat) : List Word :=
  let r := fitEntries (room - 3) (entries.drop fromIndex)
  let next := if fromIndex + r.1 < entries.length then wordOfNat (fromIndex + r.1) else Word.absent
  [wordOfNat entries.length, next] ++ r.2

end Sys2Proof.Machine
end

