-- ==== Sys2Proof/Machine/Store.lean ====
section
/-!
DEFINITION. STORE (chapter 5): the ring of slots and its frontiers, the point record on the link, and the streams.
-/

namespace Sys2Proof.Machine

/-! ### Slots (R90, R92) -/

/-- The slot of point `k` (R90). -/
def slotOf (k : Nat) : Nat := k % ringSize

/-- Puts a point into a slot, keeping the list in rising order of slot number. -/
def putSlot (n : Nat) (x : PointRec) : List (Nat × PointRec) → List (Nat × PointRec)
  | [] => [(n, x)]
  | (m, y) :: rest =>
    if n < m then (n, x) :: (m, y) :: rest
    else if n = m then (n, x) :: rest
    else (m, y) :: putSlot n x rest

/-- The point that a slot holds; a slot that is not listed holds none (notes/assumptions/19.md). -/
def getSlot (n : Nat) : List (Nat × PointRec) → Option PointRec
  | [] => none
  | (m, y) :: rest => if n = m then some y else getSlot n rest

/-- Point `k`, when its slot still holds it (R92). -/
def Store.point (st : Store) (k : Nat) : Option PointRec :=
  match getSlot (slotOf k) st.slots with
  | some r => if r.index = k then some r else none
  | none => none

/-- A write addressed by index: dropped when the slot no longer holds the point (R92). -/
def Store.write (st : Store) (k : Nat) (f : PointRec → PointRec) : Store :=
  match st.point k with
  | some r => { st with slots := putSlot (slotOf k) { f r with index := r.index } st.slots }
  | none => st

/-- The oldest retained index, max(0, W - 4095); absent when the store is empty (R90, R112). -/
def Store.oldest (st : Store) : Option Nat := st.w.map fun w => w - (ringSize - 1)

/-- A write to a point's slot (R92). -/
def writePoint (k : Nat) (f : PointRec → PointRec) (s : State) : State :=
  { s with store := s.store.write k f }

/-! ### The point record on the link (05 section 5.2) -/

/-- A signed value in 16 bits. -/
def half (x : Int) : BitVec 16 := BitVec.ofInt 16 x

/-- The flag bits 16 to 23 of w3, as a number from 0 to 255. -/
def PointRec.flags (r : PointRec) : Nat :=
  r.seam.toNat + 2 * r.lowSpeed.toNat + 4 * r.slide.toNat + 8 * r.slew.toNat + 16 * r.rebase.toNat +
    32 * r.tail.toNat + 64 * r.suppressed.toNat + 128 * r.exceeding.toNat

/-- The statuses of w9: parameter p in bits 2p + 1 and 2p. -/
def PointRec.statusBits (r : PointRec) : Nat :=
  Param.all.foldl (fun acc p => acc + (r.statuses.get p).code * 4 ^ p.code) 0

/-- The ten words of a returned point (05 section 5.2). -/
def PointRec.words (r : PointRec) : List Word :=
  [ wordOfNat r.index,
    wordOfInt r.chainage,
    wordOfNat r.crossing,
    wordOfHalves (BitVec.ofNat 16 r.flags) (BitVec.ofNat 16 (r.crossing / 4294967296)),
    wordOfNat ((r.highest % 4) * 134217728 + r.odoState.code * 33554432 + r.locState.code * 8388608 +
      r.trackClass.val * 1048576 + r.speed % 1048576),
    wordOfHalves (half r.values.cant) (half r.values.gauge),
    wordOfHalves (half r.values.levelR) (half r.values.levelL),
    wordOfHalves (half r.values.alignR) (half r.values.alignL),
    wordOfHalves (half r.values.curv) (half r.values.twist),
    wordOfHalves (BitVec.ofNat 16 r.sectionId) (BitVec.ofNat 16 r.statusBits) ]

/-- The records of `n` points from `first` on, in index order (R98, R102). -/
def Store.records (st : Store) (first n : Nat) : List Word :=
  (List.range n).flatMap fun i => ((st.point (first + i)).map PointRec.words).getD []

/-! ### Streams (R100 to R107) -/

/-- The reasons of a STREAM_END (R105). -/
inductive StreamEnd where
  | countDone | runOver | newRun | reset | stopped | replaced
  deriving DecidableEq, Repr

/-- The reason code of a STREAM_END (R105). -/
def StreamEnd.code : StreamEnd → Nat
  | .countDone => 0
  | .runOver => 1
  | .newRun => 2
  | .reset => 3
  | .stopped => 4
  | .replaced => 5

/-- The stream of a port. -/
def State.stream (s : State) (p : PortId) : Option Stream := s.store.streams.get p

/-- Replaces the stream of a port. -/
def setStream (p : PortId) (x : Option Stream) (s : State) : State :=
  { s with store := { s.store with streams := s.store.streams.set p x } }

/-- The STREAM_END notice of a stream (R105). -/
def streamEndNotice (st : Stream) (why : StreamEnd) : Notice :=
  { cls := .streamEnd, tag := st.tag,
    payload := [wordOfNat why.code, wordOfNat st.cursor, wordOrAbsent st.remaining] }

/-- Ends the port's stream, if it has one, with a STREAM_END (R105). -/
def endStream (p : PortId) (why : StreamEnd) (s : State) : State :=
  match s.stream p with
  | some st => offerTo p (streamEndNotice st why) (setStream p none s)
  | none => s

/-- Whether a cursor stands above C. -/
def Store.above (st : Store) (cursor : Nat) : Bool :=
  match st.c with
  | some c => decide (c < cursor)
  | none => true

/-- In IDLE, a stream whose cursor is above C ends with RUN_OVER (R107). -/
def runOverTest (p : PortId) (s : State) : State :=
  match s.stream p with
  | some st =>
    if s.run.state = .idle ∧ s.store.above st.cursor = true then endStream p .runOver s else s
  | none => s

/-- How many points a POINTS frame of the stream carries now: 0 when R103 does not let one be built, else the n of
R102. -/
def pointsDue (p : PortId) (st : Stream) (s : State) : Nat :=
  match s.store.c, s.store.oldest with
  | some c, some oldest =>
    if st.remaining ≠ some 0 ∧ st.cursor ≤ c ∧ oldest ≤ st.cursor ∧
        (s.port p).notices.length + pointsFreeSlots ≤ noticeCapacity then
      let room := min (c - st.cursor + 1) ((maxWords p s - 1) / 10)
      match st.remaining with
      | some r => min room r
      | none => room
    else 0
  | _, _ => 0

/-- The stream after `n` points have been queued (R102). -/
def Stream.advance (st : Stream) (n : Nat) : Stream :=
  { st with cursor := st.cursor + n, remaining := st.remaining.map (· - n), delivered := addSat32 st.delivered n }

/-- The POINTS notice of `n` points at the stream's cursor (R102). -/
def pointsNotice (st : Stream) (n : Nat) (s : State) : Notice :=
  { cls := .points, tag := st.tag,
    payload := wordOrAbsent (st.advance n).remaining :: s.store.records st.cursor n }

/-- After a POINTS frame: COUNT_DONE when the count has reached 0 (R106), else the RUN_OVER test in IDLE (R107). -/
def afterPoints (p : PortId) (s : State) : State :=
  match s.stream p with
  | some st => if st.remaining = some 0 then endStream p .countDone s else runOverTest p s
  | none => s

/-- Builds POINTS frames for the port's stream until a condition of R103 fails. At most 12 fit the queue, so 16 rounds
are enough. -/
def buildPoints : Nat → PortId → State → State
  | 0, _, s => s
  | fuel + 1, p, s =>
    match s.stream p with
    | some st =>
      let n := pointsDue p st s
      if n = 0 then s
      else buildPoints fuel p (afterPoints p (setStream p (some (st.advance n)) (offerTo p (pointsNotice st n s) s)))
    | none => s

/-- Tests the build conditions of one port's stream (R103). -/
def streamBuild (p : PortId) (s : State) : State := buildPoints noticeCapacity p s

/-- Tests the build conditions of every port's stream (R103). -/
def streamBuildAll (s : State) : State := PortId.all.foldl (fun t p => streamBuild p t) s

/-- Reports `n` points lost to the stream: a GAP notice, and cursor and counts moved (R104). -/
def reportGap (p : PortId) (st : Stream) (n : Nat) (s : State) : State :=
  let st' : Stream := { st with cursor := st.cursor + n, remaining := st.remaining.map (· - n),
                                lost := addSat32 st.lost n }
  setStream p (some st')
    (offerTo p { cls := .gap, tag := st.tag,
                 payload := [wordOfNat st.cursor, wordOfNat (st.cursor + n - 1), wordOfNat n,
                             wordOrAbsent st'.remaining] } s)

/-- Compares the stream's cursor with the oldest retained index; a cursor below it loses the points between (R104). -/
def gapTest (p : PortId) (s : State) : State :=
  match s.stream p, s.store.oldest with
  | some st, some oldest =>
    if st.cursor < oldest then
      match st.remaining with
      | some r =>
        if r ≤ oldest - st.cursor then endStream p .countDone (reportGap p st r s)
        else streamBuild p (reportGap p st (oldest - st.cursor) s)
      | none => streamBuild p (reportGap p st (oldest - st.cursor) s)
    else s
  | _, _ => s

/-- The point that a slot holds at its opening: the fields known at creation, every other field 0, every status VOID,
every other flag clear (R94). -/
def newPoint (k : Nat) (chainage : Int) (crossing speed : Nat) (odoState : OdoState) (locState : LocState)
    (slew rebase : Bool) : PointRec :=
  { index := k, chainage, crossing, speed, slide := decide (odoState ≠ .normal), odoState, locState, slew, rebase,
    seam := false, lowSpeed := false, tail := false, suppressed := false, exceeding := false, trackClass := 0,
    highest := 0, sectionId := 0, values := PerParam.const 0, statuses := PerParam.const .void, readable := false }

/-- Opens the slot of a created point and makes it W; then each stream is tested for a gap (R90, R91, R104). -/
def openSlot (x : PointRec) (s : State) : State :=
  PortId.all.foldl (fun t p => gapTest p t)
    { s with store := { s.store with slots := putSlot (slotOf x.index) x s.store.slots, w := some x.index } }

/-- The store emptied, streams as given: no slot holds a point, the frontiers are undefined, the counter is 0 (R108,
R109). -/
def Store.emptied (st : Store) : Store := { Store.reset with streams := st.streams }

end Sys2Proof.Machine
end

