-- ==== Sys2Proof/Machine/Exceed.lean ====
section
/-!
DEFINITION. EXM (chapter 8): judging a completed point, grouping exceeding points into records, the exceedance list,
urgent records and the URGENT line.
-/

namespace Sys2Proof.Machine

/-! ### The list and the URGENT line (R162, R165) -/

/-- The list replaced; URGENT is asserted exactly while it holds an UNACKED record (R165). -/
def Exm.withRecords (e : Exm) (records : List ExcRecord) : Exm :=
  { e with records, urgent := records.any fun r => decide (r.urgency = .unacked) }

/-- A record of the list by its id. -/
def findRecord (id : Nat) (l : List ExcRecord) : Option ExcRecord := l.find? fun r => decide (r.id = id)

/-- The list with a record changed by its id. -/
def updateRecord (id : Nat) (f : ExcRecord → ExcRecord) (l : List ExcRecord) : List ExcRecord :=
  l.map fun r => if r.id = id then f r else r

/-- Whether a record may be evicted: it is closed and not UNACKED (R163). -/
def ExcRecord.evictable (r : ExcRecord) : Bool := r.closing.isSome && decide (r.urgency ≠ .unacked)

/-- The list without its first evictable record; none when no record qualifies (R163). -/
def evictFirst : List ExcRecord → Option (List ExcRecord)
  | [] => none
  | r :: rest => if r.evictable then some rest else (evictFirst rest).map (r :: ·)

/-- A place for a new record: the list it will be appended to, and whether a record was evicted (R163). -/
def placeFor (l : List ExcRecord) : Option (List ExcRecord × Bool) :=
  if l.length < recordCapacity then some (l, false) else (evictFirst l).map fun l' => (l', true)

/-! ### Records on the link (R168) -/

/-- The nine words of a record (R168). -/
def ExcRecord.words (r : ExcRecord) : List Word :=
  let reason : BitVec 16 := match r.closing with
    | some c => BitVec.ofNat 16 c.reason.code
    | none => 0xFFFF#16
  [ wordOfNat r.id,
    wordOfNat (r.param.code + r.side.code * 256 + r.level * 65536 + r.urgency.code * 16777216),
    wordOfNat r.startIndex,
    wordOfInt r.startChainage,
    wordOrAbsent (r.closing.map (·.endIndex)),
    wordOfInt ((r.closing.map (·.endChainage)).getD 0),
    wordOfNat r.peakIndex,
    wordOfHalves (BitVec.ofNat 16 r.sectionId) (half r.peakValue),
    wordOfHalves (BitVec.ofNat 16 r.continued.toNat) reason ]

/-! ### Grouping (R154 to R161) -/

/-- Replaces a parameter's grouping state. -/
def setGroup (p : Param) (g : Group) (s : State) : State :=
  { s with exm := { s.exm with groups := s.exm.groups.set p g } }

/-- The effects of a record becoming UNACKED: the urgent-records counter and an URGENT notice to every ACTIVE port
(R164). -/
def announceUrgent (r : ExcRecord) (s : State) : State :=
  offerAll everyPort .urgent r.words { s with exm := { s.exm with urgentRecords := inc16 s.exm.urgentRecords } }

/-- Closes a parameter's open record with a reason and an end point (R155). -/
def closeRecord (p : Param) (reason : CloseReason) (endIndex : Nat) (endChainage : Int) (s : State) : State :=
  let g := s.exm.groups.get p
  match g.current with
  | none => s
  | some o =>
    let closing : Closing := { reason, endIndex, endChainage }
    let records := updateRecord o.id (fun r => { r with closing := some closing }) s.exm.records
    let mark := if reason = .length then some (endIndex, o.side) else g.lengthMark
    let s1 : State :=
      { s with exm := { s.exm.withRecords records with
                          groups := s.exm.groups.set p { current := none, clean := 0, lengthMark := mark },
                          recordsClosed := inc16 s.exm.recordsClosed } }
    match findRecord o.id records with
    | some r => offerAll (wantsLevel r.level) .exceedance r.words s1
    | none => s1

/-- Closes a parameter's open record at its last exceeding point (R155). -/
def closeAtLast (p : Param) (reason : CloseReason) (s : State) : State :=
  match (s.exm.groups.get p).current with
  | some o => closeRecord p reason o.lastIndex o.lastChainage s
  | none => s

/-- What the grouping of a point needs of it: index, chainage, and the section id of its lookup. -/
structure PointPlace where
  index : Nat
  chainage : Int
  sectionId : Nat
  deriving DecidableEq, Repr

/-- Opens a record for a parameter that exceeds with no open record, when the list has a place (R156, R163). -/
def openRecord (p : Param) (level : Nat) (side : Side) (value : Int) (at' : PointPlace) (s : State) : State :=
  let g := s.exm.groups.get p
  match placeFor s.exm.records with
  | none => { s with exm := { s.exm with dropped := inc16 s.exm.dropped } }
  | some (l, evicted) =>
    let r : ExcRecord :=
      { id := s.exm.nextId, param := p, side, level, startIndex := at'.index, startChainage := at'.chainage,
        peakValue := value, peakIndex := at'.index, sectionId := at'.sectionId, closing := none,
        continued := decide (1 ≤ at'.index ∧ g.lengthMark = some (at'.index - 1, side)),
        urgency := if level = 3 then .unacked else .notUrgent }
    let s1 : State :=
      { s with exm := { s.exm.withRecords (l ++ [r]) with
                          nextId := s.exm.nextId + 1,
                          recordsOpened := inc16 s.exm.recordsOpened,
                          evicted := if evicted then inc16 s.exm.evicted else s.exm.evicted,
                          groups := s.exm.groups.set p
                            { g with current := some { id := r.id, side, lastIndex := at'.index,
                                                       lastChainage := at'.chainage }, clean := 0 } } }
    if level = 3 then announceUrgent r s1 else s1

/-- A record after an exceeding point on its side (R157). -/
def ExcRecord.extend (r : ExcRecord) (level : Nat) (value : Int) (index : Nat) : ExcRecord :=
  let peak : Bool := decide (r.peakValue.natAbs < value.natAbs)
  { r with
    level := max r.level level,
    peakValue := if peak then value else r.peakValue,
    peakIndex := if peak then index else r.peakIndex,
    urgency := if max r.level level = 3 ∧ r.urgency = .notUrgent then .unacked else r.urgency }

/-- Extends a parameter's open record at an exceeding point on its side, and closes it with LENGTH when it has reached
its length (R157, R158). -/
def extendRecord (p : Param) (o : OpenGroup) (level : Nat) (value : Int) (at' : PointPlace) (s : State) : State :=
  let g := s.exm.groups.get p
  let before := findRecord o.id s.exm.records
  let records := updateRecord o.id (fun r => r.extend level value at'.index) s.exm.records
  let s1 : State :=
    { s with exm := { s.exm.withRecords records with
                        groups := s.exm.groups.set p
                          { g with current := some { o with lastIndex := at'.index, lastChainage := at'.chainage },
                                   clean := 0 } } }
  match before with
  | none => s1
  | some r =>
    let r' := r.extend level value at'.index
    let s2 := if r.urgency = .notUrgent ∧ r'.urgency = .unacked then announceUrgent r' s1 else s1
    if r.startIndex + s.run.settings.maxRecordPoints - 1 ≤ at'.index then
      closeRecord p .length at'.index at'.chainage s2
    else s2

/-- A level-0 outcome bridges an open record; it closes with BELOW when the clean count exceeds gap_tol (R159). -/
def bridge (p : Param) (s : State) : State :=
  let g := s.exm.groups.get p
  match g.current with
  | none => s
  | some _ =>
    let s1 := setGroup p { g with clean := g.clean + 1 } s
    if s.run.settings.gapTol < g.clean + 1 then closeAtLast p .below s1 else s1

/-- The outcome of a parameter at a point (R151). -/
inductive ParamOutcome where
  | suppressed
  | void
  | within
  | exceeds (level : Nat) (side : Side)
  deriving DecidableEq, Repr

/-- Applies a parameter's outcome to its grouping state (R156 to R161). -/
def applyOutcome (p : Param) (o : ParamOutcome) (value : Int) (at' : PointPlace) (s : State) : State :=
  match o with
  | .suppressed => closeAtLast p .suppressed s
  | .void => closeAtLast p .void s
  | .within => bridge p s
  | .exceeds level side =>
    match (s.exm.groups.get p).current with
    | none => openRecord p level side value at' s
    | some g =>
      if g.side = side then extendRecord p g level value at' s
      else openRecord p level side value at' (closeAtLast p .side s)

/-! ### Judging a point (R151 to R153) -/

/-- The outcome of a parameter of a point (R151). -/
def outcomeOf (limits : PerParam Limits) (mask : BitVec 8) (x : PointRec) (p : Param) : ParamOutcome :=
  if mask.getLsbD p.code then .suppressed
  else if x.statuses.get p = .void then .void
  else
    match (limits.get p).judge (x.values.get p) with
    | some (level, side) => .exceeds level side
    | none => .within

/-- The level of an outcome; 0 when it is no level outcome. -/
def ParamOutcome.level : ParamOutcome → Nat
  | .exceeds l _ => l
  | _ => 0

/-- EXM judges a point that its slot still holds: lookup, outcomes, grouping, then the classification in the slot
(R151, R152). -/
def judgeHeld (x : PointRec) (s : State) : State :=
  let k := classify s.run.settings.defaultClass s.cls.sections x.chainage
  let limits := s.cls.thresholds.get k.trackClass
  let at' : PointPlace := { index := x.index, chainage := x.chainage, sectionId := k.sectionId }
  let s1 : State := { s with cls := s.cls.counted x.chainage }
  let s2 := Param.all.foldl (fun t p => applyOutcome p (outcomeOf limits k.mask x p) (x.values.get p) at' t) s1
  let highest := Param.all.foldl (fun m p => max m (outcomeOf limits k.mask x p).level) 0
  let suppressed : Bool := decide (k.mask ≠ 0#8)
  let exceeding : Bool := decide (1 ≤ highest)
  let s3 := writePoint x.index (fun r => { r with trackClass := k.trackClass, sectionId := k.sectionId, highest,
                                                   exceeding, suppressed }) s2
  { s3 with exm := { s3.exm with
      pointsJudged := inc16 s3.exm.pointsJudged,
      exceedingPoints := if exceeding then inc16 s3.exm.exceedingPoints else s3.exm.exceedingPoints,
      suppressedPoints := if suppressed then inc16 s3.exm.suppressedPoints else s3.exm.suppressedPoints } }

/-- EXM judges a point overwritten before its completion: every outcome VOID, no lookup, no classification (R153). -/
def judgeLost (s : State) : State :=
  let s1 := Param.all.foldl (fun t p => closeAtLast p .void t) s
  { s1 with exm := { s1.exm with pointsJudged := inc16 s1.exm.pointsJudged } }

/-- Closes every open record with RUN_END, in ascending order of parameter (R171). -/
def closeAllRunEnd (s : State) : State := Param.all.foldl (fun t p => closeAtLast p .runEnd t) s

/-! ### Acknowledgement (R166) -/

/-- The record becomes ACKED, URGENT is re-judged, and an URGENT_ACKED notice goes to every ACTIVE port (R166). -/
def acknowledge (by' : PortId) (r : ExcRecord) (s : State) : State :=
  let records := updateRecord r.id (fun x => { x with urgency := .acked }) s.exm.records
  let r' : ExcRecord := { r with urgency := .acked }
  offerAll everyPort .urgentAcked (r'.words ++ [wordOfNat by'.code])
    { s with exm := { s.exm.withRecords records with acknowledgements := inc16 s.exm.acknowledgements } }

end Sys2Proof.Machine
end

