-- ==== Sys2Proof/Machine/Geometry.lean ====
section
/-!
DEFINITION. GEO (chapter 4): low speed and seams, the integrators, the space curves, the eight parameters with their
statuses, and the completion of points.
-/

namespace Sys2Proof.Machine

/-- A raw point, as GRID hands it on (R54). The channels of a VOID source read 0. -/
structure RawPoint where
  index : Nat
  crossing : Nat
  speed : Nat
  afterBacktrack : Bool
  headL : HeadVals
  headR : HeadVals
  inertial : InertialVals
  statusL : Status
  statusR : Status
  statusI : Status
  clampL : Bool
  clampR : Bool
  clampI : Bool
  deriving DecidableEq, Repr

/-- What a source contributes to a status: VOID; else CLAMPED when its clamp mark is set; else its status (R80). -/
def contribution (st : Status) (clamp : Bool) : Status :=
  if st = .void then .void else if clamp then .clamped else st

/-! ### Low speed and seams (R62, R63) -/

/-- Whether a raw point is LOWSPEED; it is also the low-speed state after it, IN when LOWSPEED (R62). -/
def isLowSpeed (vMin : Nat) (low : LowSpeed) (speed : Nat) : Bool :=
  match low with
  | .outside => decide (speed < vMin)
  | .inside => decide (speed < vMin + vMin / 8)

/-- Whether a raw point is a seam (R63). -/
def isSeam (vMin : Nat) (low : LowSpeed) (rp : RawPoint) : Bool :=
  decide (rp.index = 0) || rp.afterBacktrack || (decide (low = .inside) && !isLowSpeed vMin low rp.speed)

/-! ### The integrators (R65 to R69) -/

/-- The slope limit, nrad (R66). -/
def slopeLimit : Int := 100000000

/-- The displacement limit, nm: 2^62 (R67). -/
def dispLimit : Int := 4611686018427387904

/-- An integrator step at a point that is neither LOWSPEED nor a seam, and whether slope or displacement was limited
(R66, R67). -/
def Integrator.step (i : Integrator) (a : Int) (v leakShift : Nat) : Integrator × Bool :=
  let incr := roundDiv (a * 250000000000) (v * v)
  let raw := i.slope - truncDiv i.slope (2 ^ leakShift) + incr
  let slope := limit (-slopeLimit) slopeLimit raw
  let u := i.disp + roundDiv slope 4
  ({ slope, disp := limit (-dispLimit) dispLimit u },
    beyond (-slopeLimit) slopeLimit raw || beyond (-dispLimit) dispLimit u)

/-- An integrator at a raw point: 0 at a seam, held at a LOWSPEED point, else stepped (R66, R69). -/
def Integrator.at (i : Integrator) (seam low : Bool) (a : Int) (v leakShift : Nat) : Integrator × Bool :=
  if seam then (⟨0, 0⟩, false) else if low then (i, false) else i.step a v leakShift

/-- The mark of an integrator at a raw point (R68). -/
def integMark (seam low limited : Bool) (rp : RawPoint) : IntegMark :=
  if seam || low then .clear
  else if limited || rp.clampI then .clamped
  else if rp.statusI = .good then .clear
  else .held

/-! ### Ranges (R79) -/

/-- A parameter value after limiting, its status, and whether it was limited (R79). -/
structure Limited where
  value : Int
  status : Status
  limited : Bool
  deriving DecidableEq, Repr

/-- The range of a parameter (R79). -/
def Param.range : Param → Int × Int
  | .curv => (-30000, 30000)
  | _ => (-32768, 32767)

/-- A value limited to its parameter's range; VOID is written as 0 and not limited (R79). -/
def limitParam (p : Param) (v : Int) (st : Status) : Limited :=
  if st = .void then ⟨0, .void, false⟩
  else if beyond p.range.1 p.range.2 v then ⟨limit p.range.1 p.range.2 v, .clamped, true⟩
  else ⟨v, st, false⟩

/-- Writes a parameter of a point and counts its limiting (R79, R95). -/
def writeParam (k : Nat) (p : Param) (x : Limited) (s : State) : State :=
  let s1 := writePoint k
    (fun r => { r with values := r.values.set p x.value, statuses := r.statuses.set p x.status }) s
  if x.limited then
    { s1 with geo := { s1.geo with
        valueClamps := s1.geo.valueClamps.set p (inc16 (s1.geo.valueClamps.get p)) } }
  else s1

/-! ### Point parameters (R72 to R75) -/

/-- GAUGE at a raw point (R72, R80). -/
def gaugeOf (c : Settings) (rp : RawPoint) : Limited :=
  limitParam .gauge (c.headSpan + rp.headL.g + rp.headR.g - c.nominalGauge)
    (.joinAll [contribution rp.statusL rp.clampL, contribution rp.statusR rp.clampR])

/-- CANT at a raw point (R73, R80). -/
def cantOf (c : Settings) (rp : RawPoint) : Limited :=
  limitParam .cant (roundDiv (c.cantBase * rp.inertial.theta) 1000000 + rp.headL.h - rp.headR.h)
    (.joinAll [contribution rp.statusL rp.clampL, contribution rp.statusR rp.clampR,
      contribution rp.statusI rp.clampI])

/-- TWIST at point `k` from the cant history (R74). -/
def twistOf (twistBase : Nat) (cants : List CantEntry) (k : Nat) : Limited :=
  match cants.find? (fun e => decide (e.index = k)),
      (if k < twistBase then none else cants.find? fun e => decide (e.index = k - twistBase)) with
  | some a, some b => limitParam .twist (a.value - b.value) (a.status.join b.status)
  | _, _ => ⟨0, .void, false⟩

/-- CURV at a raw point (R75, R80). -/
def curvOf (low : Bool) (rp : RawPoint) : Limited :=
  limitParam .curv (roundDiv (rp.inertial.omega * 1000) rp.speed)
    (if low then .void else contribution rp.statusI rp.clampI)

/-! ### Versines (R76 to R78) -/

/-- The entry of point `k` in the chord history. -/
def chordAt (h : List ChordEntry) (k : Nat) : Option ChordEntry := h.find? fun e => decide (e.index = k)

/-- The status that an integrator mark contributes (R78). -/
def IntegMark.status : IntegMark → Status
  | .clear => .good
  | .held => .held
  | .clamped => .clamped

/-- Which space curve, head and integrator a versine draws on (R76, R78). -/
structure VersineKind where
  param : Param
  left : Bool
  vertical : Bool
  deriving DecidableEq, Repr

/-- The space curve of a versine (R76). -/
def VersineKind.curve (v : VersineKind) (e : ChordEntry) : Int :=
  match v.vertical, v.left with
  | true, true => e.zL
  | true, false => e.zR
  | false, true => e.yL
  | false, false => e.yR

/-- The head status of a versine at an entry (R78). -/
def VersineKind.head (v : VersineKind) (e : ChordEntry) : Status := if v.left then e.headL else e.headR

/-- The integrator mark of a versine at an entry (R78). -/
def VersineKind.mark (v : VersineKind) (e : ChordEntry) : IntegMark :=
  if v.vertical then (if v.left then e.markVL else e.markVR) else e.markLat

/-- LEVEL_L, LEVEL_R, ALIGN_L, ALIGN_R (R76). -/
def levelKinds : List VersineKind := [⟨.levelL, true, true⟩, ⟨.levelR, false, true⟩]

/-- ALIGN_L and ALIGN_R (R76). -/
def alignKinds : List VersineKind := [⟨.alignL, true, false⟩, ⟨.alignR, false, false⟩]

/-- The versine at centre `j` with half-chord `m` from the chord history (R76 to R79). -/
def versineAt (h : List ChordEntry) (j m : Nat) (v : VersineKind) : Limited :=
  let inside := h.filter fun e => decide (j - m < e.index) && decide (e.index ≤ j + m)
  match (if j < m then none else chordAt h (j - m)), chordAt h j, chordAt h (j + m) with
  | some a, some b, some c =>
    let ends := [a, b, c]
    let isVoid : Bool := a.lowSpeed || inside.any (fun e => e.lowSpeed || e.seam) ||
      ends.any (fun e => decide (v.head e = .void) || decide (e.inertial = .void))
    let num := 2 * v.curve b - v.curve a - v.curve c
    let st := Status.joinAll
      (ends.map v.head ++ ends.map (fun e => contribution e.inertial e.inertialClamp) ++
        inside.map (fun e => (v.mark e).status))
    limitParam v.param (roundDiv num 20000) (if isVoid then .void else st)
  | _, _, _ => ⟨0, .void, false⟩

/-- Computes and writes the versines of the kinds listed at centre `k - m`, when that index is 0 or more (R76). -/
def writeVersines (kinds : List VersineKind) (k m : Nat) (s : State) : State :=
  if k < m then s
  else kinds.foldl (fun t v => writeParam (k - m) v.param (versineAt s.geo.chord (k - m) m v) t) s

/-! ### Completion (R81, R92) -/

/-- Completes point `j`: EXM judges it, STORE marks it readable and advances C, and the streams are tested (R81, R92,
R103). -/
def completePoint (j : Nat) (s : State) : State :=
  let s1 : State := match s.store.point j with
    | some x => writePoint j (fun r => { r with readable := true }) (judgeHeld x s)
    | none => judgeLost { s with store := { s.store with overwritten := inc16 s.store.overwritten } }
  streamBuildAll { s1 with store := { s1.store with c := some j } }

/-! ### A raw point (R61) -/

/-- The newest `n` entries of a history that is oldest first. -/
def newest {α : Type} (n : Nat) (l : List α) : List α := l.drop (l.length - n)

/-- Steps 1 and 2 of R61, and the chord history entry of step 3: classification, integrators, space curves. -/
def geoClassify (rp : RawPoint) (s : State) : State :=
  let g := s.geo
  let c := s.run.settings
  let low := isLowSpeed c.vMin g.low rp.speed
  let seam := isSeam c.vMin g.low rp
  let vl := g.vl.at seam low rp.inertial.aL rp.speed c.leakShift
  let vr := g.vr.at seam low rp.inertial.aR rp.speed c.leakShift
  let lat := g.lat.at seam low rp.inertial.aLat rp.speed c.leakShift
  let entry : ChordEntry :=
    { index := rp.index,
      zL := rp.headL.h * 10000 + vl.1.disp, zR := rp.headR.h * 10000 + vr.1.disp,
      yL := rp.headL.g * 10000 + lat.1.disp, yR := -rp.headR.g * 10000 + lat.1.disp,
      headL := rp.statusL, headR := rp.statusR, inertial := rp.statusI, inertialClamp := rp.clampI,
      markVL := integMark seam low vl.2 rp, markVR := integMark seam low vr.2 rp,
      markLat := integMark seam low lat.2 rp, seam, lowSpeed := low }
  writePoint rp.index (fun r => { r with seam, lowSpeed := low })
    { s with geo := { g with
        low := if low then .inside else .outside,
        lowEntries := if low && decide (g.low = .outside) then inc16 g.lowEntries else g.lowEntries,
        seams := if seam then inc16 g.seams else g.seams,
        vl := vl.1, vr := vr.1, lat := lat.1,
        clampsVL := if vl.2 then inc16 g.clampsVL else g.clampsVL,
        clampsVR := if vr.2 then inc16 g.clampsVR else g.clampsVR,
        clampsLat := if lat.2 then inc16 g.clampsLat else g.clampsLat,
        chord := newest chordCapacity (g.chord ++ [entry]) } }

/-- Step 4 of R61: GAUGE, CANT, TWIST and CURV, and the cant history. -/
def geoPoint (rp : RawPoint) (low : Bool) (s : State) : State :=
  let c := s.run.settings
  let cant := cantOf c rp
  let s1 := writeParam rp.index .cant cant (writeParam rp.index .gauge (gaugeOf c rp) s)
  let cants := newest cantCapacity
    (s1.geo.cants ++ [{ index := rp.index, value := cant.value, status := cant.status }])
  let s2 : State := { s1 with geo := { s1.geo with cants } }
  writeParam rp.index .curv (curvOf low rp) (writeParam rp.index .twist (twistOf c.twistBase cants rp.index) s2)

/-- GEO handles a raw point whole (R61). -/
def geoRawPoint (rp : RawPoint) (s : State) : State :=
  let c := s.run.settings
  let low := isLowSpeed c.vMin s.geo.low rp.speed
  let s1 := geoPoint rp low (geoClassify rp s)
  let s2 := writeVersines alignKinds rp.index c.alignHalf (writeVersines levelKinds rp.index c.levelHalf s1)
  if rp.index < c.mMax then s2 else completePoint (rp.index - c.mMax) s2

/-! ### The tail (R83) -/

/-- Writes VOID for the versines of point `j` whose chord would reach beyond `w` (R83). -/
def voidVersines (kinds : List VersineKind) (j m w : Nat) (s : State) : State :=
  if w < j + m then kinds.foldl (fun t v => writeParam j v.param ⟨0, .void, false⟩ t) s else s

/-- Completes a tail point: missing versines VOID, the TAIL flag, then R81 (R83). -/
def completeTail (w j : Nat) (s : State) : State :=
  let c := s.run.settings
  completePoint j
    (writePoint j (fun r => { r with tail := true })
      (voidVersines alignKinds j c.alignHalf w (voidVersines levelKinds j c.levelHalf w s)))

/-- Completes the points after C up to W in index order, and sets the tail state (R83). -/
def completeTailAll (s : State) : State :=
  let s1 := match s.store.w with
    | some w =>
      let first := (s.store.c.map (· + 1)).getD 0
      (List.range (w + 1 - first)).foldl (fun t i => completeTail w (first + i) t) s
    | none => s
  { s1 with geo := { s1.geo with tailDone := true } }

end Sys2Proof.Machine
end

