-- ==== Sys2Proof/Machine/RunControl.lean ====
section
/-!
DEFINITION. RUN (chapter 9): the RUN notice and the change from FINISHING to IDLE, and the finishing sequence that
leads to it (R180).
-/

namespace Sys2Proof.Machine

/-- The causes of a RUN notice (R178). -/
inductive RunCause where
  | started | ended | reset
  deriving DecidableEq, Repr

/-- The code of a cause (R178). -/
def RunCause.code : RunCause → Nat
  | .started => 0
  | .ended => 1
  | .reset => 2

/-- The ten words of a RUN notice, with W and C as given (R178). -/
def runWords (cause : RunCause) (w c : Option Nat) (s : State) : List Word :=
  let rec' := s.run.record
  [ wordOfNat cause.code,
    s.run.number.setWidth 32,
    wordOfNat s.run.state.code,
    wordOrAbsent (rec'.map (·.direction.code)),
    wordOrAbsent (rec'.map (·.sense.code)),
    wordOfInt ((rec'.map (·.start)).getD 0),
    wordOrAbsent w,
    wordOrAbsent c ] ++ twoWords s.now

/-- Queues a RUN notice to every ACTIVE port (R178). -/
def runNotice (cause : RunCause) (s : State) : State :=
  offerAll everyPort .run (runWords cause s.store.w s.store.c s) s

/-- The number of TAIL points of a run with last created index `w`: min(W + 1, m_max) (R181). -/
def tailPoints (c : Settings) (w : Nat) : Nat := min (w + 1) c.mMax

/-- Answers the pending END_RUN, if there is one, and clears it (R181, step 4). -/
def answerEndRun (s : State) : State :=
  match s.run.pendingEnd with
  | some (p, tag) =>
    let w := s.store.w.getD 0
    let s1 := reply p tag [s.run.number.setWidth 32, wordOfNat w, wordOfNat (tailPoints s.run.settings w)] s
    let s2 := setInService p none s1
    { s2 with run := { s2.run with pendingEnd := none } }
  | none => s

/-- The run becomes IDLE: the window is abandoned, no point is awaited, no reference time exists, the streams are
tested, RUN ENDED is queued and END_RUN answered (R181, R9, R36, R57, R107). -/
def becomeIdle (s : State) : State :=
  let s1 : State :=
    { s with
      run := { s.run with state := .idle },
      odo := { s.odo with window := none },
      grid := { s.grid with waiting := [], deadline := none },
      intake := { s.intake with refTime := none } }
  let s2 := PortId.all.foldl (fun t p => runOverTest p t) s1
  answerEndRun (runNotice .ended s2)

/-- Sets the finishing stage (R180). -/
def setStage (stage : RunStage) (s : State) : State := { s with run := { s.run with state := .finishing stage } }

/-- GRID's formation-finished report and all that follows it: the tail, the RUN_END closes, and IDLE (R56, R83, R84,
R171, R180, R181). -/
def finishRun (s : State) : State :=
  let s1 := setStage .tailing { s with grid := { s.grid with finished := true } }
  let s2 := setStage .closing (completeTailAll s1)
  becomeIdle (closeAllRunEnd s2)

end Sys2Proof.Machine
end

