-- ==== Sys2Proof/Machine/Grid.lean ====
section
/-!
DEFINITION. GRID (chapter 3) with INTAKE's brackets and trimming: when the awaited point is formed, its values at the
crossing time, and the hand-off.
-/

namespace Sys2Proof.Machine

/-! ### Brackets and trimming (R39, R40) -/

/-- The lower bracket: the newest entry with stamp at or below `t` (R40). -/
def lowerBracket {α : Type} (q : List (Entry α)) (t : Nat) : Option (Entry α) :=
  (q.filter fun e => decide (e.stamp ≤ t)).getLast?

/-- The upper bracket: the oldest entry with stamp above `t` (R40). -/
def upperBracket {α : Type} (q : List (Entry α)) (t : Nat) : Option (Entry α) :=
  q.find? fun e => decide (t < e.stamp)

/-- A queue trimmed at `t`: entries older than the lower bracket are removed (R39). -/
def trimQueue {α : Type} (q : List (Entry α)) (t : Nat) : List (Entry α) :=
  match lowerBracket q t with
  | some a => q.filter fun e => decide (a.stamp ≤ e.stamp)
  | none => q

/-! ### Values at the crossing time (R48 to R53) -/

/-- A channel interpolated between its brackets (R49). -/
def interpolate (xa xb : Int) (ta tb t : Nat) : Int :=
  xa + roundDiv ((xb - xa) * ((t : Int) - ta)) (tb - ta)

/-- A head's channels interpolated (R49). -/
def HeadVals.between (a b : HeadVals) (ta tb t : Nat) : HeadVals :=
  { g := interpolate a.g b.g ta tb t, h := interpolate a.h b.h ta tb t }

/-- INERTIAL's channels interpolated (R49). -/
def InertialVals.between (a b : InertialVals) (ta tb t : Nat) : InertialVals :=
  { aL := interpolate a.aL b.aL ta tb t, aR := interpolate a.aR b.aR ta tb t,
    aLat := interpolate a.aLat b.aLat ta tb t, theta := interpolate a.theta b.theta ta tb t,
    omega := interpolate a.omega b.omega ta tb t }

/-- A head without a value: its channels read 0 (R51). -/
def HeadVals.zero : HeadVals := { g := 0, h := 0 }

/-- INERTIAL without a value: its channels read 0 (R51). -/
def InertialVals.zero : InertialVals := { aL := 0, aR := 0, aLat := 0, theta := 0, omega := 0 }

/-- A source read at a crossing time: values, status and clamp mark (R48 to R53). -/
structure SourceRead (α : Type) where
  vals : α
  status : Status
  clamp : Bool
  deriving DecidableEq, Repr

/-- A source read from its brackets, before the hold limit (R48 to R51, R53). -/
def readBrackets {α : Type} (between : α → α → Nat → Nat → Nat → α) (zero : α) (a b : Option (Entry α)) (t : Nat) :
    SourceRead α :=
  match a, b with
  | some a, some b =>
    { vals := between a.vals b.vals a.stamp b.stamp t, status := .good, clamp := a.clamp || b.clamp }
  | some a, none => { vals := a.vals, status := .held, clamp := a.clamp }
  | none, some b => { vals := b.vals, status := .held, clamp := b.clamp }
  | none, none => { vals := zero, status := .void, clamp := false }

/-- The hold count after a point whose status before the hold limit is given (R52). -/
def holdCountAfter (count : Nat) (st : Status) : Nat := if st = .good then 0 else inc16 count

/-- The hold limit: a HELD source whose count exceeds it is VOID, with channels 0 and no clamp mark (R52, R53). -/
def applyHoldLimit {α : Type} (zero : α) (count holdLimit : Nat) (r : SourceRead α) : SourceRead α :=
  if r.status = .held ∧ holdLimit < holdCountAfter count r.status then
    { vals := zero, status := .void, clamp := false }
  else r

/-- A source read at a crossing time from its queue (R48 to R53). -/
def readSource {α : Type} (between : α → α → Nat → Nat → Nat → α) (zero : α) (q : List (Entry α)) (t : Nat)
    (count holdLimit : Nat) : SourceRead α :=
  applyHoldLimit zero count holdLimit (readBrackets between zero (lowerBracket q t) (upperBracket q t) t)

/-- GRID's part of a source after the formation of a point: hold count and counters (R52, R59). `before` is the
status before the hold limit, `after` the one at the point. -/
def GridSource.formed (u : GridSource) (before after : Status) (byDeadline : Bool) : GridSource :=
  { holdCount := holdCountAfter u.holdCount before,
    heldPoints := if after = .held then inc16 u.heldPoints else u.heldPoints,
    voidPoints := if after = .void then inc16 u.voidPoints else u.voidPoints,
    deadlinePoints := if byDeadline then inc16 u.deadlinePoints else u.deadlinePoints }

/-! ### Satisfaction (R44) -/

/-- A queue holds an entry above `t`: the source is satisfied by a later sample (R44). -/
def hasLater {α : Type} (q : List (Entry α)) (t : Nat) : Bool := q.any fun e => decide (t < e.stamp)

/-- The source is not live: STALE or ABSENT (R44). -/
def SourceUnit.notLive (u : SourceUnit) : Bool := decide (u.state ≠ .live)

/-- Whether a source is satisfied for a crossing time by a later sample or by its state (R44). -/
def satisfiedBySelf (s : State) (t : Nat) : PerQueued Bool :=
  { headL := hasLater s.intake.queueL t || s.intake.units.headL.notLive,
    headR := hasLater s.intake.queueR t || s.intake.units.headR.notLive,
    inertial := hasLater s.intake.queueI t || s.intake.units.inertial.notLive }

/-- The timebase has reached the alignment deadline (R44). This holds at every examination from that count on, whatever
causes it: an arrival or a change of state that is taken first at the deadline's own count already finds the deadline
reached, an order that R47 leaves open (notes/assumptions/32.md). -/
def deadlineReached (s : State) : Bool :=
  match s.grid.deadline with
  | some d => decide (d ≤ s.now)
  | none => false

/-- Whether each source is satisfied for a crossing time (R44). -/
def satisfied (s : State) (t : Nat) : PerQueued Bool :=
  let own := satisfiedBySelf s t
  let d := deadlineReached s
  { headL := own.headL || d, headR := own.headR || d, inertial := own.inertial || d }

/-- Whether all three sources are satisfied (R46). -/
def PerQueued.all (v : PerQueued Bool) : Bool := v.headL && v.headR && v.inertial

/-! ### Formation (R43, R54) -/

/-- The raw point of a created point, from the queues as they stand (R54). -/
def rawPointOf (c : CreatedPoint) (s : State) : RawPoint :=
  let limit' := s.run.settings.holdLimit
  let u := s.grid.units
  let l := readSource HeadVals.between HeadVals.zero s.intake.queueL c.crossing u.headL.holdCount limit'
  let r := readSource HeadVals.between HeadVals.zero s.intake.queueR c.crossing u.headR.holdCount limit'
  let i := readSource InertialVals.between InertialVals.zero s.intake.queueI c.crossing u.inertial.holdCount limit'
  { index := c.index, crossing := c.crossing, speed := c.speed, afterBacktrack := c.afterBacktrack,
    headL := l.vals, headR := r.vals, inertial := i.vals, statusL := l.status, statusR := r.status,
    statusI := i.status, clampL := l.clamp, clampR := r.clamp, clampI := i.clamp }

/-- The status of a source before the hold limit (R48). -/
def statusBefore {α : Type} (q : List (Entry α)) (t : Nat) : Status :=
  match lowerBracket q t, upperBracket q t with
  | some _, some _ => .good
  | none, none => .void
  | _, _ => .held

/-- GRID's sources and counters after the formation of a point (R52, R59). -/
def Grid.counted (g : Grid) (c : CreatedPoint) (rp : RawPoint) (s : State) : Grid :=
  let t := c.crossing
  let own := satisfiedBySelf s t
  let d := deadlineReached s
  { g with
    units :=
      { headL := g.units.headL.formed (statusBefore s.intake.queueL t) rp.statusL (d && !own.headL),
        headR := g.units.headR.formed (statusBefore s.intake.queueR t) rp.statusR (d && !own.headR),
        inertial := g.units.inertial.formed (statusBefore s.intake.queueI t) rp.statusI (d && !own.inertial) },
    clampedPoints := if rp.clampI then inc16 g.clampedPoints else g.clampedPoints }

/-- The alignment deadline of the first waiting point (R45). A sum above 2^48 - 1 stands as it is, and the count does not
reach it before the reset (R2, notes/assumptions/30.md). -/
def deadlineOf (alignWaitUs : Nat) (waiting : List CreatedPoint) : Option Nat :=
  waiting.head?.map fun c => c.crossing + alignWaitUs

/-- Forms the awaited point: GRID's counters, the formed frontier, the reference time and the trim, then GEO (R39, R43,
R54). -/
def formPoint (c : CreatedPoint) (rest : List CreatedPoint) (s : State) : State :=
  let rp := rawPointOf c s
  let t := rp.crossing
  geoRawPoint rp
    { s with
      grid := { s.grid.counted c rp s with waiting := rest, deadline := deadlineOf s.run.settings.alignWaitUs rest },
      store := { s.store with f := some rp.index },
      intake := { s.intake with
        queueL := trimQueue s.intake.queueL t, queueR := trimQueue s.intake.queueR t,
        queueI := trimQueue s.intake.queueI t, refTime := some t } }

/-- Forms awaited points while all three sources are satisfied; each formation examines the next (R46). -/
def formWhile : Nat → State → State
  | 0, s => s
  | fuel + 1, s =>
    match s.grid.waiting with
    | c :: rest => if (satisfied s c.crossing).all then formWhile fuel (formPoint c rest s) else s
    | [] => s

/-- In FINISHING, when every created point has been formed, GRID reports that formation is finished (R56). -/
def finishTest (s : State) : State :=
  if s.run.state = .finishing .forming ∧ s.grid.waiting = [] then finishRun s else s

/-- GRID examines the awaited point (R46); in IDLE it forms nothing (R57). -/
def examine (s : State) : State :=
  if s.run.state = .idle then s else finishTest (formWhile s.grid.waiting.length s)

/-- A created point is handed to GRID. Where no point waits it is the awaited one: its deadline is set, and GRID examines
it. Behind a waiting point it waits, and its creation examines nothing (R43, R45, R46). -/
def awaitPoint (c : CreatedPoint) (s : State) : State :=
  if s.grid.waiting = [] then
    examine { s with grid := { s.grid with
      waiting := [c], deadline := deadlineOf s.run.settings.alignWaitUs [c] } }
  else { s with grid := { s.grid with waiting := s.grid.waiting ++ [c] } }

end Sys2Proof.Machine
end

