-- ==== Sys2Proof/Machine/Position.lean ====
section
/-!
DEFINITION. POS (chapter 6): chainage at point creation, marker reads and fixes, location states and their notices.
-/

namespace Sys2Proof.Machine

/-! ### Chainage at creation (R115, R116) -/

/-- The applied offset after step 1 of R115: moved toward the target by at most slew_mm. -/
def slewed (applied target : Int) (slewMm : Nat) : Int :=
  if (target - applied).natAbs ≤ slewMm then target
  else if applied < target then applied + slewMm
  else applied - slewMm

/-- What POS assigns to a created point (R115). -/
structure Assigned where
  chainage : Int
  slew : Bool
  rebase : Bool
  locState : LocState
  deriving DecidableEq, Repr

/-- The exact chainage of point `k` with an applied offset (R115, step 2). -/
def Pos.chainageAt (ps : Pos) (k : Nat) (applied : Int) : Int := ps.base + ps.sense.sign * k * 250 + applied

/-- What point `k` is assigned (R115, R116). -/
def Pos.assigned (ps : Pos) (slewMm k : Nat) : Assigned :=
  let a := slewed ps.applied ps.target slewMm
  { chainage := limit int32Min int32Max (ps.chainageAt k a), slew := decide (a ≠ ps.applied),
    rebase := ps.pendingRebase, locState := ps.state }

/-- POS after the creation of point `k` (R115, R116). -/
def Pos.afterCreation (ps : Pos) (slewMm k : Nat) : Pos :=
  let a := slewed ps.applied ps.target slewMm
  { ps with
    applied := a, pendingRebase := false, lastChainage := some (ps.assigned slewMm k).chainage,
    chainageLimits := if beyond int32Min int32Max (ps.chainageAt k a) then inc16 ps.chainageLimits
      else ps.chainageLimits }

/-! ### The distance history (R8) -/

/-- ODO's answer to an inquiry at `t`: the S of the newest pair whose stamp is at or before `t`; else that of the
oldest pair; 0 while the history is empty (R8). -/
def distanceAt (history : List (Nat × Int)) (t : Nat) : Int :=
  match (history.filter fun x => decide (x.1 ≤ t)).getLast? with
  | some x => x.2
  | none =>
    match history with
    | x :: _ => x.2
    | [] => 0

/-! ### LOCATION notices (R128) -/

/-- The causes of a LOCATION notice (R128). -/
inductive LocCause where
  | fix | mismatch | rebase | doubtful
  deriving DecidableEq, Repr

/-- The code of a cause (R128). -/
def LocCause.code : LocCause → Nat
  | .fix => 0
  | .mismatch => 1
  | .rebase => 2
  | .doubtful => 3

/-- The marker fields of a LOCATION notice: ident, marker chainage, predicted chainage (R128). -/
structure MarkerFields where
  ident : Nat
  marker : Int
  predicted : Int
  deriving DecidableEq, Repr

/-- Queues a LOCATION notice, with the state as it stands (R128). The error word is limited to the signed 32-bit range,
that of a MANUAL_FIX too, for which R128 states no limit (notes/assumptions/31.md). -/
def locationNotice (cause : LocCause) (m : Option MarkerFields) (error distance : Int) (stamp : Nat) (s : State) :
    State :=
  let ps := s.pos
  let lim := limit int32Min int32Max
  let fields : List Word := match m with
    | some f => [wordOfNat f.ident, wordOfInt f.marker, wordOfInt (lim f.predicted)]
    | none => [Word.absent, Word.absent, Word.absent]
  let next : Word := wordOfNat ((s.store.w.map (· + 1)).getD 0)
  offerAll wantsLocation .location
    ([wordOfNat cause.code, if m.isSome then 7#32 else 0#32, wordOfNat ps.state.code] ++ fields ++
      [wordOfInt (lim error), wordOfInt ps.target, wordOfInt ps.applied, wordOfNat ps.mismatch, wordOfInt distance,
        wordOfNat stamp, next]) s

/-! ### Marker reads (R121 to R126) -/

/-- The chainage that the marker table holds for an ident (R117). -/
def markerChainage (ident : Nat) (l : List (Nat × Int)) : Option Int :=
  (l.find? fun x => decide (x.1 = ident)).map (·.2)

/-- The predicted chainage at a run distance (R122). -/
def Pos.predicted (ps : Pos) (distance : Int) : Int :=
  ps.base + ps.sense.sign * roundDiv distance 1000 + ps.target

/-- Test 4 of R121: a second read of the marker that last set the position. -/
def Pos.repeats (ps : Pos) (captureMm ident : Nat) (distance : Int) : Bool :=
  match ps.lastFix with
  | some (i, d) => decide (i = ident) && decide ((distance - d).natAbs ≤ captureMm * 1000)
  | none => false

/-- An accepted fix (R123), unless the target would leave its range (R126). -/
def acceptFix (f : MarkerFields) (error distance : Int) (stamp : Nat) (s : State) : State :=
  let ps := s.pos
  if inInt32 (ps.target + error) then
    locationNotice .fix (some f) error distance stamp
      { s with pos := { ps with target := ps.target + error, mismatch := 0, lastFix := some (f.ident, distance),
                                acceptedFixes := inc16 ps.acceptedFixes } }
  else { s with pos := { ps with outOfRange := inc16 ps.outOfRange } }

/-- A mismatch, which can make the position DOUBTFUL (R124). The MISMATCH notice is taken before that change, so it
shows FIXED (notes/assumptions/27.md). -/
def countMismatch (f : MarkerFields) (error distance : Int) (stamp : Nat) (s : State) : State :=
  let ps := s.pos
  let s1 := locationNotice .mismatch (some f) error distance stamp
    { s with pos := { ps with mismatch := ps.mismatch + 1, mismatches := inc16 ps.mismatches } }
  if s.run.settings.mismatchLimit ≤ ps.mismatch + 1 then
    locationNotice .doubtful (some f) error distance stamp { s1 with pos := { s1.pos with state := .doubtful } }
  else s1

/-- A rebase of both offsets (R125), unless one would leave its range (R126). -/
def rebaseOn (f : MarkerFields) (error distance : Int) (stamp : Nat) (s : State) : State :=
  let ps := s.pos
  if inInt32 (ps.target + error) && inInt32 (ps.applied + error) then
    locationNotice .rebase (some f) error distance stamp
      { s with pos := { ps with applied := ps.applied + error, target := ps.target + error, pendingRebase := true,
                                state := .fixed, mismatch := 0, lastFix := some (f.ident, distance),
                                markerRebases := inc16 ps.markerRebases } }
  else { s with pos := { ps with outOfRange := inc16 ps.outOfRange } }

/-- A read that passes the screening is judged by the location state (R122 to R125). -/
def judgeRead (ident : Nat) (marker distance : Int) (stamp : Nat) (s : State) : State :=
  let predicted := s.pos.predicted distance
  let error := marker - predicted
  let f : MarkerFields := { ident, marker, predicted }
  match s.pos.state with
  | .fixed =>
    if error.natAbs ≤ s.run.settings.captureMm then acceptFix f error distance stamp s
    else countMismatch f error distance stamp s
  | .unfixed => rebaseOn f error distance stamp s
  | .doubtful => rebaseOn f error distance stamp s

/-- POS takes a marker read with ODO's answer for its run distance: screened by R121, then judged. -/
def takeMarkerRead (ident stamp : Nat) (distance : Int) (s : State) : State :=
  let ps := s.pos
  if s.run.state = .idle then { s with pos := { ps with idleReads := inc16 ps.idleReads } }
  else if stamp < ((s.run.record.map (·.t0)).getD 0) then
    { s with pos := { ps with earlyReads := inc16 ps.earlyReads } }
  else
    match markerChainage ident ps.markers with
    | none => { s with pos := { ps with unknownReads := inc16 ps.unknownReads } }
    | some marker =>
      if ps.repeats s.run.settings.captureMm ident distance then
        { s with pos := { ps with repeatReads := inc16 ps.repeatReads } }
      else judgeRead ident marker distance stamp s

/-! ### FAULT report (R11, R127) -/

/-- ODO reports its entry into FAULT: the location state becomes DOUBTFUL, with a notice unless it already is. The
notice's stamp is the count as it stands (notes/assumptions/28.md). -/
def reportFault (s : State) : State :=
  if s.pos.state = .doubtful then s
  else locationNotice .doubtful none 0 s.odo.runDistance s.now { s with pos := { s.pos with state := .doubtful } }

/-! ### The marker table (R117 to R119) -/

/-- Puts a marker at its place in ident order, replacing an entry of the same ident. -/
def putMarker (ident : Nat) (chainage : Int) : List (Nat × Int) → List (Nat × Int)
  | [] => [(ident, chainage)]
  | (i, c) :: rest =>
    if ident < i then (ident, chainage) :: (i, c) :: rest
    else if ident = i then (ident, chainage) :: rest
    else (i, c) :: putMarker ident chainage rest

/-- The table without an ident. -/
def dropMarker (ident : Nat) (l : List (Nat × Int)) : List (Nat × Int) := l.filter fun x => decide (x.1 ≠ ident)

end Sys2Proof.Machine
end

