-- ==== Sys2Proof/Machine/Odometry.lean ====
section
/-!
DEFINITION. ODO (chapter 1): the glitch filter, pulses and channel distances, run distance, the comparison window and
slides, point creation, SPACING, and backtrack.
-/

namespace Sys2Proof.Machine

/-! ### Distance per pulse (R6) -/

/-- The setting ppr of a channel (R185). -/
def Settings.ppr (c : Settings) : Channel → Nat
  | .t1 => c.pprT1
  | .t2 => c.pprT2

/-- The setting circ of a channel (R185). -/
def Settings.circ (c : Settings) : Channel → Nat
  | .t1 => c.circT1
  | .t2 => c.circT2

/-- The primary channel (R185). -/
def Settings.primaryChannel (c : Settings) : Channel := if c.primary = 0 then .t1 else .t2

/-- A channel with q and r derived from the settings and the remainder at 0 (01 section 1.2, R23). -/
def Tach.derive (t : Tach) (circ ppr : Nat) : Tach := { t with q := circ / ppr, r := circ % ppr, rem := 0 }

/-- Remainder after a pulse, and whether it wrapped (R6). -/
def remainderAfter (rem r ppr : Nat) (forward : Bool) : Nat × Bool :=
  if forward then
    if ppr ≤ rem + r then (rem + r - ppr, true) else (rem + r, false)
  else
    if rem < r then (rem + ppr - r, true) else (rem - r, false)

/-- The step magnitude of a pulse: q + 1 when the remainder wrapped, else q (R6). -/
def stepMagnitude (q : Nat) (wrapped : Bool) : Nat := if wrapped then q + 1 else q

/-! ### Point creation (R14 to R18) -/

/-- The speed of a point created `dt` µs after the point before it, whose speed was `before` (R17). -/
def speedAfter (dt before : Nat) : Nat :=
  if dt = 0 then before else (min 1048575 (roundDiv 250000000 dt)).toNat

/-- Creates point `k`: ODO's flags, speed and owed pulse, POS's chainage, STORE's slot, and GRID's wait (R15, R17,
R18, R19). -/
def createPoint (k crossing speed : Nat) (s : State) : State :=
  let a := s.pos.assigned s.run.settings.slewMm k
  let x := newPoint k a.chainage crossing speed s.odo.state a.locState a.slew a.rebase
  let mark := s.odo.pendingSeam
  let s1 : State :=
    { s with
      odo := { s.odo with lastSpeed := speed, lastCrossing := crossing, pendingSeam := false,
                          spacingOwed := s.odo.spacingOwed + 1 },
      pos := s.pos.afterCreation s.run.settings.slewMm k }
  awaitPoint { index := k, crossing, speed, afterBacktrack := mark } (openSlot x s1)

/-- Creates the next `n` points from `k` on, with crossing times by the rule given (R15 to R17). -/
def createPoints (crossingOf : Nat → Nat) : Nat → Nat → State → State
  | 0, _, s => s
  | n + 1, k, s =>
    let t := crossingOf k
    createPoints crossingOf n (k + 1) (createPoint k t (speedAfter (t - s.odo.lastCrossing) s.odo.lastSpeed) s)

/-- The crossing time of point `k` in a pulse event (R16). -/
def pulseCrossing (tp : Nat) (sPrev : Int) (tj : Nat) (sNew : Int) (k : Nat) : Nat :=
  ((tp : Int) + truncDiv (((tj : Int) - tp) * ((k : Int) * gridStep - sPrev)) (sNew - sPrev)).toNat

/-- The first index that an S event may create: greater than W, with its boundary above S_prev (R15). -/
def firstCreated (w : Option Nat) (sPrev : Int) : Nat :=
  max ((w.map (· + 1)).getD 0) (Int.fdiv sPrev gridStep + 1).toNat

/-- How many points an S event creates from an index on: those with their boundary at or below S_new (R15). -/
def countCreated (first : Nat) (sNew : Int) : Nat := (Int.fdiv sNew gridStep + 1 - first).toNat

/-! ### S events (R7, R8, R15, R20) -/

/-- Queues an ODOMETRY notice: cause 0 STATE or 1 BACKTRACK (R13, R223). -/
def odometryNotice (cause : Nat) (s : State) : State :=
  let o := s.odo
  offerAll wantsOdometry .odometry
    [wordOfNat cause, wordOfNat o.state.code, wordOfNat o.believed.code, wordOfBool o.backtrack,
      wordOfInt o.runDistance, wordOfInt o.highWater] s

/-- The distance history with a pair appended; at its capacity the oldest pair is removed first (R8). -/
def appendHistory (l : List (Nat × Int)) (x : Nat × Int) : List (Nat × Int) :=
  (if historyCapacity ≤ l.length then l.drop 1 else l) ++ [x]

/-- The backtrack tests of an S event that has changed S from `sPrev`, against the HW held before it (R20). In
FINISHING the pending-seam mark is left as it is (R21). -/
def backtrackTest (sPrev : Int) (s : State) : State :=
  let o := s.odo
  if o.runDistance < sPrev then
    if o.backtrack = false ∧ o.runDistance < o.highWater - s.run.settings.backtrackMm * 1000 then
      odometryNotice 1 { s with odo := { o with backtrack := true } }
    else s
  else if sPrev < o.runDistance ∧ o.backtrack = true ∧ o.highWater < o.runDistance then
    odometryNotice 1 { s with odo := { o with backtrack := false,
                                              pendingSeam := if s.run.state = .running then true
                                                else o.pendingSeam } }
  else s

/-- An S event: S changes by `step` at `stamp`; event record, history, backtrack, HW, and the points it creates in
RUNNING (R7, R8, R15, R16, R20). -/
def sEvent (correction : Bool) (stamp : Nat) (step : Int) (s : State) : State :=
  let o := s.odo
  let sPrev := o.runDistance
  let sNew := sPrev + step
  let before := o.eventRec.getD (stamp, sPrev)
  let s1 := backtrackTest sPrev
    { s with odo := { o with runDistance := sNew, eventRec := some (stamp, sNew),
                             history := appendHistory o.history (stamp, sNew) } }
  let s2 : State := { s1 with odo := { s1.odo with highWater := max s1.odo.highWater sNew } }
  if s.run.state = .running ∧ sPrev < sNew then
    let first := firstCreated s.store.w sPrev
    let crossingOf (k : Nat) : Nat :=
      if correction then stamp else pulseCrossing before.1 before.2 stamp sNew k
    createPoints crossingOf (countCreated first sNew) first s2
  else s2

/-! ### The comparison window (R9 to R12) -/

/-- An open window with both advances 0 and backward seen cleared (R9). -/
def Window.empty : Window := { advance := ⟨0, 0⟩, backward := false }

/-- The window after a pulse (R9). -/
def Window.add (w : Window) (c : Channel) (step : Int) (forward : Bool) : Window :=
  { advance := w.advance.set c (w.advance.get c + step), backward := w.backward || !forward }

/-- Whether a window has reached its length (R9). -/
def Window.full (w : Window) : Bool := decide (windowLength ≤ max w.advance.t1.natAbs w.advance.t2.natAbs)

/-- Whether a full window is discarded (R10). -/
def Window.isDiscarded (w : Window) : Bool :=
  decide (w.advance.t1 < 0) || decide (w.advance.t2 < 0) || w.backward

/-- Whether a window that is not discarded agrees (R10). -/
def Window.agrees (w : Window) (slideTol : Nat) : Bool :=
  decide ((w.advance.t1 - w.advance.t2).natAbs * 1000 ≤ slideTol * (max w.advance.t1 w.advance.t2).toNat)

/-- The channel with the smaller advance; in a disagreeing window the two are not equal (R11). -/
def Window.smaller (w : Window) : Channel := if w.advance.t1 < w.advance.t2 then .t1 else .t2

/-- The other channel. -/
def otherChannel : Channel → Channel
  | .t1 => .t2
  | .t2 => .t1

/-- The odometry state after a disagreeing window, with the consecutive disagree count it has reached (R11, step 1). -/
def stateAfterDisagree (before : OdoState) (run : Nat) : OdoState :=
  if before = .fault ∨ 50 ≤ run then .fault else .slide

/-- ODO's counters and state at a disagreeing close (R10, R11). -/
def Odo.disagreed (o : Odo) : Odo :=
  { o with judged := inc16 o.judged, disagreeing := inc16 o.disagreeing, disagreeRun := inc16 o.disagreeRun,
           agreeRun := 0, state := stateAfterDisagree o.state (inc16 o.disagreeRun) }

/-- Step 1 of R11: the state, its notice, and on entry to FAULT the report to POS (R11, R13, R127,
notes/assumptions/13.md). -/
def enterSlide (s : State) : State :=
  let before := s.odo.state
  let s1 : State := { s with odo := s.odo.disagreed }
  let s2 := if s1.odo.state ≠ before then odometryNotice 0 s1 else s1
  if s1.odo.state = .fault ∧ before ≠ .fault then reportFault s2 else s2

/-- Step 2 of R11: when the believed channel is the smaller one, S is stepped forward by the difference and the larger
channel becomes believed. The S event comes first, so a BACKTRACK notice that it queues still names the smaller channel
(notes/assumptions/25.md). -/
def correctSlide (w : Window) (stamp : Nat) (s : State) : State :=
  if s.odo.believed = w.smaller then
    let s1 := sEvent true stamp (w.advance.t1 - w.advance.t2).natAbs s
    { s1 with odo := { s1.odo with believed := otherChannel w.smaller } }
  else s

/-- The close of a disagreeing window (R11). -/
def closeDisagreeing (w : Window) (stamp : Nat) (s : State) : State := correctSlide w stamp (enterSlide s)

/-- The close of an agreeing window (R10, R12). -/
def closeAgreeing (s : State) : State :=
  let o := s.odo
  let run := inc16 o.agreeRun
  let s1 : State :=
    { s with odo := { o with judged := inc16 o.judged, agreeRun := run, disagreeRun := 0 } }
  if o.state ≠ .normal ∧ 10 ≤ run then
    odometryNotice 0 { s1 with odo := { s1.odo with state := .normal,
                                                    believed := s.run.settings.primaryChannel } }
  else s1

/-- Tests the open window after a pulse; a full one closes, is judged, and a new one opens (R9, R10). -/
def windowTest (stamp : Nat) (s : State) : State :=
  match s.odo.window with
  | some w =>
    if w.full then
      let s1 : State := { s with odo := { s.odo with window := some Window.empty } }
      if w.isDiscarded then { s1 with odo := { s1.odo with discarded := inc16 s1.odo.discarded } }
      else if w.agrees s.run.settings.slideTol then closeAgreeing s1
      else closeDisagreeing w stamp s1
    else s
  | none => s

/-! ### Pulses (R5, R6) -/

/-- A pulse that is taken: remainder, channel distance, window, run distance, then the window test (R6, R7, R9). -/
def takePulse (c : Channel) (stamp : Nat) (tachForward : Bool) (s : State) : State :=
  let o := s.odo
  let t := o.tach.get c
  let rem := remainderAfter t.rem t.r (s.run.settings.ppr c) tachForward
  let surveyForward : Bool := match o.direction with
    | .forward => tachForward
    | .reverse => !tachForward
  let mag : Int := stepMagnitude t.q rem.2
  let step : Int := if surveyForward then mag else -mag
  let s1 : State :=
    { s with odo := { o with tach := o.tach.set c { t with rem := rem.1, dist := t.dist + step },
                             window := o.window.map fun w => w.add c step surveyForward } }
  let s2 := if c = o.believed then sEvent false stamp step s1 else s1
  windowTest stamp s2

/-- A pulse is taken in RUNNING and FINISHING, when it is not earlier than the acceptance of the run (R5). -/
def pulse (c : Channel) (stamp : Nat) (tachForward : Bool) (s : State) : State :=
  if s.run.state = .idle then s
  else if stamp < ((s.run.record.map (·.t0)).getD 0) then s
  else takePulse c stamp tachForward s

/-! ### The glitch filter (R4) -/

/-- The channel of a line. -/
def channelOf : TachLine → Channel
  | .t1A => .t1
  | .t1B => .t1
  | .t2A => .t2
  | .t2B => .t2

/-- The channel whose cA a line is, with the cB beside it. -/
def pulseLine : TachLine → Option (Channel × TachLine)
  | .t1A => some (.t1, .t1B)
  | .t2A => some (.t2, .t2B)
  | .t1B => none
  | .t2B => none

/-- A line's candidate has held for glitch_us (R4). -/
def LineState.due (l : LineState) (glitchUs now : Nat) : Bool :=
  match l.candidate with
  | some t => decide (t + glitchUs ≤ now)
  | none => false

/-- No line has a candidate with an earlier stamp than `t`: validated edges are taken in the order of their stamps
(R4). -/
def noEarlier (lines : PerLine LineState) (t : Nat) : Bool :=
  TachLine.all.all fun l =>
    match (lines.get l).candidate with
    | some t' => decide (t ≤ t')
    | none => true

/-- Validates the candidate of a line: the filtered level takes the new value, and a rising edge of cA is a pulse
(R4, R5). -/
def validateEdge (l : TachLine) (t : Nat) (s : State) : State :=
  let x := s.odo.lines.get l
  let s1 : State :=
    { s with odo := { s.odo with lines := s.odo.lines.set l { x with filtered := !x.filtered, candidate := none } } }
  match pulseLine l with
  | some (c, b) => if x.filtered = false then pulse c t (!(s.odo.lines.get b).filtered) s1 else s1
  | none => s1

/-- Takes the edge of a line when it is due and no line has an earlier candidate; otherwise nothing happens (R4). -/
def takeEdge (l : TachLine) (s : State) : State :=
  let x := s.odo.lines.get l
  match x.candidate with
  | some t =>
    if x.due s.run.settings.glitchUs s.now && noEarlier s.odo.lines t then validateEdge l t s else s
  | none => s

/-- Takes every due edge, in the order of the stamps, equal stamps in the order T1A, T1B, T2A, T2B (R4,
notes/assumptions/12.md). Four lines hold at most four candidates. -/
def takeDueEdges (s : State) : State :=
  (List.range 4).foldl (fun t _ =>
    match TachLine.all.find? (fun l =>
        match (t.odo.lines.get l).candidate with
        | some x => (t.odo.lines.get l).due t.run.settings.glitchUs t.now && noEarlier t.odo.lines x
        | none => false) with
    | some l => takeEdge l t
    | none => t) s

/-- ODO's answer to POS for the run distance at a time (R8). An edge that the count has already reached is taken into
account although no step has taken it yet, so the answer does not depend on which of the two comes first at one count
(R130, notes/assumptions/29.md). -/
def runDistanceAt (s : State) (t : Nat) : Int := distanceAt (takeDueEdges s).odo.history t

/-- The raw level of a line takes the level given: a candidate is recorded, or a return to the filtered level drops
the candidate and, in RUNNING and FINISHING, counts a glitch. A candidate that has held long enough is validated
first (R4, notes/assumptions/11.md). -/
def rawChange (l : TachLine) (level : Bool) (s : State) : State :=
  let s0 := if (s.odo.lines.get l).due s.run.settings.glitchUs s.now then takeDueEdges s else s
  let x := s0.odo.lines.get l
  if x.raw = level then s0
  else
    let candidate : Option Nat := if level = x.filtered then none else some s0.now
    let c := channelOf l
    let t := s0.odo.tach.get c
    let glitch : Bool := decide (level = x.filtered) && decide (s0.run.state ≠ .idle)
    { s0 with odo := { s0.odo with
        lines := s0.odo.lines.set l { x with raw := level, candidate },
        tach := if glitch then s0.odo.tach.set c { t with glitches := inc16 t.glitches } else s0.odo.tach } }

/-! ### SPACING (R19) -/

/-- SPACING goes high while pulses are owed and it has been low for 10 µs (R19). -/
def spacingStart (s : State) : State :=
  let o := s.odo
  if o.spacingHigh = false ∧ 0 < o.spacingOwed ∧ o.spacingSince + spacingTime ≤ s.now then
    { s with odo := { o with spacingHigh := true, spacingSince := s.now } }
  else s

/-- SPACING has been high for 10 µs: it goes low and the owed count falls by one (R19). -/
def spacingEnd (s : State) : State :=
  let o := s.odo
  if o.spacingHigh = true ∧ o.spacingSince + spacingTime ≤ s.now then
    { s with odo := { o with spacingHigh := false, spacingSince := s.now, spacingOwed := o.spacingOwed - 1 } }
  else s

/-! ### The commands -/

/-- TACH_RAW_CHANGE (R4). -/
def execTachRawChange (line : TachLine) (level : Bool) (s : State) : Host.Outcome State Fault Refusal :=
  .next (rawChange line level s)

/-- TACH_EDGE_VALIDATED (R4). -/
def execTachEdgeValidated (line : TachLine) (s : State) : Host.Outcome State Fault Refusal := .next (takeEdge line s)

/-- SPACING_PULSE_START (R19). -/
def execSpacingPulseStart (s : State) : Host.Outcome State Fault Refusal := .next (spacingStart s)

/-- SPACING_PULSE_END (R19). -/
def execSpacingPulseEnd (s : State) : Host.Outcome State Fault Refusal := .next (spacingEnd s)

end Sys2Proof.Machine
end

