-- ==== Sys2Proof/Machine/Settings.lean ====
section
/-!
DEFINITION. The survey settings record (R185): its 32 fields as words, their ranges, and LOAD_SETTINGS (R186, R187).
-/

namespace Sys2Proof.Machine

/-- The fields in field order (R185). -/
def Settings.fields (c : Settings) : List Nat :=
  [ c.pprT1, c.pprT2, c.circT1, c.circT2, c.primary, c.glitchUs, c.slideTol, c.backtrackMm, c.latencyL, c.latencyR,
    c.latencyI, c.latencyM, c.staleMs, c.alignWaitUs, c.holdLimit, c.headSpan, c.nominalGauge, c.cantBase,
    c.levelHalf, c.alignHalf, c.twistBase, c.leakShift, c.vMin, c.captureMm, c.slewMm, c.mismatchLimit, c.gapTol,
    c.maxRecordPoints, c.defaultClass, c.presenceMs, c.badFrameLimit, c.yieldMs ]

/-- The range of each field, in field order (R185). -/
def settingRanges : List (Nat × Nat) :=
  [ (100, 4096), (100, 4096), (2000000, 4000000), (2000000, 4000000), (0, 1), (1, 255), (5, 100), (0, 1000),
    (0, 5000), (0, 5000), (0, 5000), (0, 5000), (5, 500), (100, 20000), (0, 16), (100000, 180000),
    (100000, 180000), (100000, 200000), (4, 80), (4, 80), (4, 40), (6, 16), (1389, 16667), (1000, 200000),
    (1, 125), (1, 15), (0, 8), (40, 4000), (0, 7), (50, 2000), (1, 15), (100, 5000) ]

/-- Whether a value lies in a range, both ends included. -/
def within (v : Nat) (range : Nat × Nat) : Bool := decide (range.1 ≤ v) && decide (v ≤ range.2)

/-- The number of the first field, from 1, whose value lies outside its range (R186). -/
def firstOutside : Nat → List Nat → List (Nat × Nat) → Option Nat
  | n, v :: vs, g :: gs => if within v g then firstOutside (n + 1) vs gs else some n
  | _, _, _ => none

/-- The record that 32 words carry, word n holding field n (R186). -/
def settingsOf (payload : List Word) : Settings :=
  let w (n : Nat) : Nat := (payloadWord payload n).toNat
  { pprT1 := w 1, pprT2 := w 2, circT1 := w 3, circT2 := w 4, primary := w 5, glitchUs := w 6, slideTol := w 7,
    backtrackMm := w 8, latencyL := w 9, latencyR := w 10, latencyI := w 11, latencyM := w 12, staleMs := w 13,
    alignWaitUs := w 14, holdLimit := w 15, headSpan := w 16, nominalGauge := w 17, cantBase := w 18,
    levelHalf := w 19, alignHalf := w 20, twistBase := w 21, leakShift := w 22, vMin := w 23, captureMm := w 24,
    slewMm := w 25, mismatchLimit := w 26, gapTol := w 27, maxRecordPoints := w 28, defaultClass := w 29,
    presenceMs := w 30, badFrameLimit := w 31, yieldMs := w 32 }

/-- Both channels derive q, r and remainder 0 from the settings in force, and the primary becomes believed (01 section
1.2, R23, R187). -/
def Odo.loaded (o : Odo) (c : Settings) : Odo :=
  { o with tach := ⟨o.tach.t1.derive c.circT1 c.pprT1, o.tach.t2.derive c.circT2 c.pprT2⟩,
           believed := c.primaryChannel }

/-- The settings record replaced, with its effects at once (R187). -/
def loadSettings (c : Settings) (s : State) : State :=
  takeDueEdges
    { s with run := { s.run with settings := c, loadCount := inc16 s.run.loadCount }, odo := s.odo.loaded c }

/-- LOAD_SETTINGS after the authority check (R186, R187). -/
def loadSettingsBody (p : PortId) (r : Request) (s : State) : State :=
  if s.run.state ≠ .idle then refuse p r.kind r.tag .wrongState 0 s
  else
    let c := settingsOf r.payload
    match firstOutside 1 c.fields settingRanges with
    | some n => refuse p r.kind r.tag .range n s
    | none =>
      let s1 := loadSettings c s
      reply p r.tag [wordOfNat s1.run.loadCount] s1

/-- LOAD_SETTINGS (R186, R187). -/
def execLoadSettings (port : PortId) (s : State) : Host.Outcome State Fault Refusal :=
  .next (serveHolder .loadSettings (exactly 32) port (loadSettingsBody port) s)

end Sys2Proof.Machine
end

