-- ==== Sys2Proof/Machine/Requests.lean ====
section
/-!
DEFINITION. The requests that any ACTIVE port may send (11 sections 11.3 and 11.4, 05 sections 5.3 to 5.5, 08 section
8.4), and the refusal of an unknown kind (R211).
-/

namespace Sys2Proof.Machine

/-- Any payload length (R212). -/
def anyLength (_ : Nat) : Bool := true

/-! ### Link requests (R211 to R214) -/

/-- PRESENCE: the reservation is released without an answer (R212, R204). -/
def presenceBody (p : PortId) (_ : Request) (s : State) : State := releaseReservation p s

/-- ECHO (R212). -/
def echoBody (p : PortId) (r : Request) (s : State) : State :=
  reply p r.tag (r.payload.take (maxWords p s - 1)) s

/-- IDENTIFY (R213). -/
def identifyBody (p : PortId) (r : Request) (s : State) : State :=
  reply p r.tag
    [ 0x4402#32, 1#32, wordOfNat p.code, wordOfNat s.run.state.code, s.run.number.setWidth 32,
      wordOrAbsent (s.svc.holder.map PortId.code) ] s

/-- REJOIN, served in ACTIVE (R212). -/
def rejoinBody (p : PortId) (r : Request) (s : State) : State := reply p r.tag [] s

/-- The options that a SET_LINK carries, or the field of the first check that fails (R214). -/
def parseOptions (payload : List Word) : Except Nat LinkOptions :=
  let words := (payloadWord payload 1).toNat
  let notices := payloadWord payload 2
  let levels := payloadWord payload 3
  let attention := payloadWord payload 4
  if ¬(12 ≤ words ∧ words ≤ 255) then .error 1
  else if 8 ≤ notices.toNat then .error 2
  else if 8 ≤ levels.toNat then .error 3
  else if 4096 ≤ attention.toNat then .error 4
  else
    .ok { maxReplyWords := words, noticeMask := notices.setWidth 3, levelMask := levels.setWidth 3,
          attentionMask := attention.setWidth 12 }

/-- The four options as the words of a SET_LINK reply (R214). -/
def LinkOptions.words (o : LinkOptions) : List Word :=
  [ wordOfNat o.maxReplyWords, o.noticeMask.setWidth 32, o.levelMask.setWidth 32, o.attentionMask.setWidth 32 ]

/-- SET_LINK; a change of max_reply_words tests the port's stream (R214, R103). -/
def setLinkBody (p : PortId) (r : Request) (s : State) : State :=
  match parseOptions r.payload with
  | .error n => refuse p r.kind r.tag .range n s
  | .ok o =>
    let changed : Bool := decide (o.maxReplyWords ≠ maxWords p s)
    let s1 := reply p r.tag o.words (s.setPort p { s.port p with options := o })
    if changed then streamBuild p s1 else s1

/-- A frame whose kind is no request kind (R211, order 1). -/
def unknownKindBody (p : PortId) (r : Request) (s : State) : State := refuse p r.kind r.tag .unknownKind 0 s

/-! ### READ_TABLE (R216, R147, R148, R188) -/

/-- READ_TABLE (R216). -/
def readTableBody (p : PortId) (r : Request) (s : State) : State :=
  let room := maxWords p s
  let arg := (payloadWord r.payload 2).toNat
  match (payloadWord r.payload 1).toNat with
  | 0 => reply p r.tag ((s.run.settings.fields.map wordOfNat).take (room - 1)) s
  | 1 =>
    if 7 < arg then refuse p r.kind r.tag .range 2 s
    else reply p r.tag ((wordOfNat arg :: thresholdWords (s.cls.thresholds.get (Fin.ofNat 8 arg))).take (room - 1)) s
  | 2 => reply p r.tag (tableReply (s.cls.sections.map SectionEntry.words) arg room) s
  | 3 => reply p r.tag (tableReply (s.pos.markers.map fun m => [wordOfNat m.1, wordOfInt m.2]) arg room) s
  | _ => refuse p r.kind r.tag .range 1 s

/-! ### Window reads (R97, R98) -/

/-- How many points a READ_POINTS returns (R98). -/
def pointsReturned (first last c maxReply : Nat) : Nat :=
  min (last - first + 1) (min (c - first + 1) ((maxReply - 2) / 10))

/-- READ_POINTS (R97, R98). -/
def readPointsBody (p : PortId) (r : Request) (s : State) : State :=
  let first := (payloadWord r.payload 1).toNat
  let last := (payloadWord r.payload 2).toNat
  if last < first then refuse p r.kind r.tag .range 2 s
  else
    match s.store.c with
    | none => refuse p r.kind r.tag .notReady 0 s
    | some c =>
      if first < s.store.oldest.getD 0 then refuse p r.kind r.tag .expired 0 s
      else if c < first then refuse p r.kind r.tag .notReady 0 s
      else
        let n := pointsReturned first last c (maxWords p s)
        let next := if first + n ≤ last then wordOfNat (first + n) else Word.absent
        reply p r.tag (next :: s.store.records first n) s

/-! ### Streams (R101, R110) -/

/-- The stream that a STREAM_POINTS begins (R101, step 2). -/
def newStream (r : Request) (c : Option Nat) : Stream :=
  let start := payloadWord r.payload 1
  let count := payloadWord r.payload 2
  { cursor := if start = Word.absent then (c.map (· + 1)).getD 0 else start.toNat,
    remaining := if count = 0#32 ∨ count = Word.absent then none else some count.toNat,
    tag := r.tag, delivered := 0, lost := 0 }

/-- STREAM_POINTS (R101). -/
def streamPointsBody (p : PortId) (r : Request) (s : State) : State :=
  if s.store.w = none ∧ s.run.state = .idle then refuse p r.kind r.tag .notReady 0 s
  else
    let st := newStream r s.store.c
    let s1 := setStream p (some st) (endStream p .replaced s)
    let s2 := reply p r.tag [wordOfNat st.cursor, wordOrAbsent st.remaining] s1
    streamBuild p (runOverTest p (gapTest p s2))

/-- STOP_STREAM (R110). -/
def stopStreamBody (p : PortId) (r : Request) (s : State) : State :=
  if (s.stream p).isSome then reply p r.tag [1#32] (endStream p .stopped s) else reply p r.tag [0#32] s

/-! ### Exceedances (R166, R170) -/

/-- READ_EXCEEDANCES (R170). -/
def readExceedancesBody (p : PortId) (r : Request) (s : State) : State :=
  let fromId := (payloadWord r.payload 1).toNat
  let most := (payloadWord r.payload 2).toNat
  let tail := s.exm.records.filter fun x => decide (fromId ≤ x.id)
  let fit := min tail.length ((maxWords p s - 3) / 9)
  let n := if most = 0 then fit else min fit most
  let next := wordOrAbsent ((tail.drop n).head?.map (·.id))
  reply p r.tag ([wordOfNat s.exm.records.length, next] ++ (tail.take n).flatMap ExcRecord.words) s

/-- ACK_URGENT (R166). -/
def ackUrgentBody (p : PortId) (r : Request) (s : State) : State :=
  let id := (payloadWord r.payload 1).toNat
  match findRecord id s.exm.records with
  | none => refuse p r.kind r.tag .unknownId 0 s
  | some x =>
    match x.urgency with
    | .unacked => reply p r.tag [wordOfNat id, 0#32] (acknowledge p x s)
    | .acked => reply p r.tag [wordOfNat id, 1#32] s
    | .notUrgent => reply p r.tag [wordOfNat id, 2#32] s

/-! ### The commands -/

/-- PRESENCE (R212). -/
def execPresence (port : PortId) (s : State) : Host.Outcome State Fault Refusal :=
  .next (serveKind .presence anyLength port (presenceBody port) s)

/-- ECHO (R212). -/
def execEcho (port : PortId) (s : State) : Host.Outcome State Fault Refusal :=
  .next (serveKind .echo anyLength port (echoBody port) s)

/-- IDENTIFY (R213). -/
def execIdentify (port : PortId) (s : State) : Host.Outcome State Fault Refusal :=
  .next (serveKind .identify (exactly 0) port (identifyBody port) s)

/-- SET_LINK (R214). -/
def execSetLink (port : PortId) (s : State) : Host.Outcome State Fault Refusal :=
  .next (serveKind .setLink (exactly 4) port (setLinkBody port) s)

/-- READ_TABLE (R216). -/
def execReadTable (port : PortId) (s : State) : Host.Outcome State Fault Refusal :=
  .next (serveKind .readTable (exactly 2) port (readTableBody port) s)

/-- READ_POINTS (R97). -/
def execReadPoints (port : PortId) (s : State) : Host.Outcome State Fault Refusal :=
  .next (serveKind .readPoints (exactly 2) port (readPointsBody port) s)

/-- STREAM_POINTS (R101). -/
def execStreamPoints (port : PortId) (s : State) : Host.Outcome State Fault Refusal :=
  .next (serveKind .streamPoints (exactly 2) port (streamPointsBody port) s)

/-- STOP_STREAM (R110). -/
def execStopStream (port : PortId) (s : State) : Host.Outcome State Fault Refusal :=
  .next (serveKind .stopStream (exactly 0) port (stopStreamBody port) s)

/-- READ_EXCEEDANCES (R170). -/
def execReadExceedances (port : PortId) (s : State) : Host.Outcome State Fault Refusal :=
  .next (serveKind .readExceedances (exactly 2) port (readExceedancesBody port) s)

/-- ACK_URGENT (R166). -/
def execAckUrgent (port : PortId) (s : State) : Host.Outcome State Fault Refusal :=
  .next (serveKind .ackUrgent (exactly 1) port (ackUrgentBody port) s)

/-- REJOIN (R212). -/
def execRejoin (port : PortId) (s : State) : Host.Outcome State Fault Refusal :=
  .next (serveKind .rejoin (exactly 0) port (rejoinBody port) s)

/-- UNKNOWN_KIND_REQUEST (R211): the oldest request of the port has a kind that is no request kind. -/
def execUnknownKindRequest (port : PortId) (s : State) : Host.Outcome State Fault Refusal :=
  .next (serveWhen (fun k => !isRequestKind k) port (unknownKindBody port) s)

end Sys2Proof.Machine
end

