-- ==== Sys2Proof/Machine/Authority.lean ====
section
/-!
DEFINITION. SVC's authority (11 section 11.5): the holder, the pending claim and the yield timer.
-/

namespace Sys2Proof.Machine

/-- The causes of an AUTHORITY notice (R222). -/
inductive AuthCause where
  | claimed | yielded | released | expired | holderLost | reset
  deriving DecidableEq, Repr

/-- The code of a cause (R222). -/
def AuthCause.code : AuthCause → Nat
  | .claimed => 0
  | .yielded => 1
  | .released => 2
  | .expired => 3
  | .holderLost => 4
  | .reset => 5

/-- A port number, or FFFFFFFFh for none (R213, R219, R222). -/
def portWord (p : Option PortId) : Word := wordOrAbsent (p.map PortId.code)

/-- Makes a port, or none, the holder, ends any pending claim, and queues the AUTHORITY notice (R217, R222). -/
def setHolder (h : Option PortId) (cause : AuthCause) (s : State) : State :=
  offerAll everyPort .authority [portWord h, portWord s.svc.holder, wordOfNat cause.code]
    { s with svc := { holder := h, claimant := none, yieldAt := none } }

/-- Answers the CLAIM that a port has in service, and ends its service (R210, R218). -/
def answerClaim (q : PortId) (respond : Byte → State → State) (s : State) : State :=
  match (s.port q).inService with
  | some (.claim tag) => setInService q none (respond tag s)
  | _ => s

/-- REPLY, granted, to the CLAIM of a port: the number of the port now holding (R218). -/
def grantClaim (q : PortId) (s : State) : State :=
  answerClaim q (fun tag => reply q tag [wordOfNat q.code]) s

/-- REFUSE to the CLAIM of a port (R218, R219). -/
def refuseClaim (q : PortId) (why : Reason) (s : State) : State :=
  answerClaim q (fun tag => refuse q RequestKind.claim.code tag why 0) s

/-- Ends the pending claim without a change of holder (R219, R220). -/
def clearClaim (s : State) : State := { s with svc := { s.svc with claimant := none, yieldAt := none } }

/-- The claimant becomes holder: notice, then REPLY to its CLAIM (R219, R220). -/
def passTo (q : PortId) (cause : AuthCause) (s : State) : State := grantClaim q (setHolder (some q) cause s)

/-- CLAIM (R218). A yield deadline above 2^48 - 1 stands as it is (R2, notes/assumptions/30.md). -/
def claimBody (q : PortId) (r : Request) (s : State) : State :=
  let granted := reply q r.tag [wordOfNat q.code]
  match s.svc.holder with
  | none => granted (setHolder (some q) .claimed s)
  | some p =>
    if p = q then granted s
    else
      match s.svc.claimant with
      | some _ => refuse q r.kind r.tag .contested 0 s
      | none =>
        let ms := s.run.settings.yieldMs
        let deadline := s.now + ms * 1000
        let s1 : State := { s with svc := { s.svc with claimant := some q, yieldAt := some deadline } }
        setInService q (some (.claim r.tag))
          (offerTo p { cls := .yieldAsked, tag := 0#8,
                       payload := [wordOfNat q.code, wordOfNat ms, wordOfNat deadline] } s1)

/-- The REPLY to a YIELD, KEEP or RELEASE: the port now holding (R219). -/
def replyHolder (p : PortId) (r : Request) (s : State) : State := reply p r.tag [portWord s.svc.holder] s

/-- YIELD (R219). -/
def yieldBody (p : PortId) (r : Request) (s : State) : State :=
  if s.svc.holder ≠ some p then refuse p r.kind r.tag .notHolder 0 s
  else
    match s.svc.claimant with
    | none => refuse p r.kind r.tag .noClaim 0 s
    | some q => replyHolder p r (passTo q .yielded s)

/-- KEEP (R219). -/
def keepBody (p : PortId) (r : Request) (s : State) : State :=
  if s.svc.holder ≠ some p then refuse p r.kind r.tag .notHolder 0 s
  else
    match s.svc.claimant with
    | none => refuse p r.kind r.tag .noClaim 0 s
    | some q => replyHolder p r (refuseClaim q .kept (clearClaim s))

/-- RELEASE (R219). -/
def releaseBody (p : PortId) (r : Request) (s : State) : State :=
  if s.svc.holder ≠ some p then refuse p r.kind r.tag .notHolder 0 s
  else
    match s.svc.claimant with
    | none => replyHolder p r (setHolder none .released s)
    | some q => replyHolder p r (passTo q .released s)

/-- The timebase reaches the yield deadline (R220). -/
def yieldDeadline (s : State) : State :=
  match s.svc.claimant, s.svc.yieldAt with
  | some q, some d => if d ≤ s.now then passTo q .expired s else s
  | _, _ => s

/-- SVC is told that a port has left ACTIVE: it drops the port's authority or claim (R201, R220). -/
def dropAuthority (p : PortId) (s : State) : State :=
  if s.svc.holder = some p then
    match s.svc.claimant with
    | some q => passTo q .holderLost s
    | none => setHolder none .holderLost s
  else if s.svc.claimant = some p then clearClaim s
  else s

/-! ### The commands -/

/-- CLAIM (R218). -/
def execClaim (port : PortId) (s : State) : Host.Outcome State Fault Refusal :=
  .next (serveKind .claim (exactly 0) port (claimBody port) s)

/-- YIELD (R219). -/
def execYield (port : PortId) (s : State) : Host.Outcome State Fault Refusal :=
  .next (serveKind .yield (exactly 0) port (yieldBody port) s)

/-- KEEP (R219). -/
def execKeep (port : PortId) (s : State) : Host.Outcome State Fault Refusal :=
  .next (serveKind .keep (exactly 0) port (keepBody port) s)

/-- RELEASE (R219). -/
def execRelease (port : PortId) (s : State) : Host.Outcome State Fault Refusal :=
  .next (serveKind .release (exactly 0) port (releaseBody port) s)

/-- YIELD_DEADLINE (R220). -/
def execYieldDeadline (s : State) : Host.Outcome State Fault Refusal := .next (yieldDeadline s)

end Sys2Proof.Machine
end

