-- ==== Sys2Proof/Machine/Runs.lean ====
section
/-!
DEFINITION. START_RUN, END_RUN and RESET_PART (09 sections 9.2 to 9.4), with the values that each block takes at a run
start and at RESET_PART.
-/

namespace Sys2Proof.Machine

/-! ### Values at a run start (R23, R42, R55, R85, R108, R114, R150, R172) -/

/-- A channel's remainder, distance and glitch counter at 0 (R23). -/
def Tach.cleared (t : Tach) : Tach := { t with rem := 0, dist := 0, glitches := 0 }

/-- What a run start and RESET_PART set alike in ODO (R23). -/
def Odo.cleared (o : Odo) (c : Settings) : Odo :=
  { o with tach := ⟨o.tach.t1.cleared, o.tach.t2.cleared⟩, runDistance := 0, highWater := 0, state := .normal,
           believed := c.primaryChannel, backtrack := false, pendingSeam := false, lastSpeed := 0, judged := 0,
           discarded := 0, disagreeing := 0, agreeRun := 0, disagreeRun := 0 }

/-- ODO at acceptance of START_RUN, before point 0 (R23). -/
def Odo.started (o : Odo) (c : Settings) (direction : Direction) (t0 : Nat) : Odo :=
  { o.cleared c with direction, eventRec := some (t0, 0), history := [(t0, 0)], window := some Window.empty }

/-- INTAKE at acceptance of START_RUN (R42, R36). -/
def Intake.started (i : Intake) (t0 : Nat) : Intake :=
  { i with queueL := [], queueR := [], queueI := [], refTime := some t0 }

/-- POS at acceptance of START_RUN, before point 0 (R114). -/
def Pos.started (ps : Pos) (base : Int) (sense : Sense) : Pos :=
  { Pos.reset with base, sense, markers := ps.markers }

/-- CLS's lookup counters at 0 (R150). -/
def Cls.lookupsCleared (t : Cls) : Cls := { t with inSection := 0, defaulted := 0 }

/-- Every port's stream ends (R108, R109). -/
def endAllStreams (why : StreamEnd) (s : State) : State := PortId.all.foldl (fun t p => endStream p why t) s

/-- Steps 1 and 2 of R177: run number and record, the streams' NEW_RUN, and every block's run-start values. -/
def prepareRun (rec' : RunRecord) (s : State) : State :=
  let s1 := endAllStreams .newRun s
  { s1 with
    run := { s1.run with number := s.run.number + 1, record := some rec' },
    odo := s1.odo.started s.run.settings rec'.direction rec'.t0,
    intake := s1.intake.started rec'.t0,
    grid := Grid.reset, geo := Geo.reset, store := s1.store.emptied,
    pos := s1.pos.started rec'.start rec'.sense,
    cls := s1.cls.lookupsCleared, exm := Exm.reset }

/-- Step 3 of R177: the run is RUNNING, and ODO creates point 0 (R14). -/
def beginRun (s : State) : State :=
  createPoint 0 s.now 0 { s with run := { s.run with state := .running } }

/-- START_RUN after the authority check (R176, R177). -/
def startRunBody (p : PortId) (r : Request) (s : State) : State :=
  let direction := (payloadWord r.payload 1).toNat
  let sense := (payloadWord r.payload 2).toNat
  if s.run.state ≠ .idle then refuse p r.kind r.tag .wrongState 0 s
  else if 1 < direction then refuse p r.kind r.tag .range 1 s
  else if 1 < sense then refuse p r.kind r.tag .range 2 s
  else
    let rec' : RunRecord :=
      { direction := if direction = 0 then .forward else .reverse, sense := if sense = 0 then .rising else .falling,
        start := (payloadWord r.payload 3).toInt, t0 := s.now }
    let s1 := runNotice .started (beginRun (prepareRun rec' s))
    reply p r.tag (s1.run.number.setWidth 32 :: twoWords s.now) s1

/-! ### END_RUN (R179) -/

/-- END_RUN after the authority check; it stays in service until the run is IDLE (R179, R180, R181). -/
def endRunBody (p : PortId) (r : Request) (s : State) : State :=
  if s.run.state ≠ .running then refuse p r.kind r.tag .wrongState 0 s
  else
    finishTest (setInService p (some (.endRun r.tag))
      { s with run := { s.run with state := .finishing .forming, pendingEnd := some (p, r.tag) } })

/-! ### RESET_PART (R183, R184) -/

/-- ODO at RESET_PART; SPACING goes low, cutting short a pulse (R23, R19). -/
def Odo.parted (o : Odo) (c : Settings) (now : Nat) : Odo :=
  { o.cleared c with eventRec := none, history := [], window := none, lastCrossing := 0, spacingOwed := 0,
                     spacingHigh := false, spacingSince := if o.spacingHigh then now else o.spacingSince }

/-- A source's counters at 0; state, deadline and tracking kept (R42). -/
def SourceUnit.parted (u : SourceUnit) : SourceUnit :=
  { SourceUnit.reset with linkUp := u.linkUp, state := u.state, deadline := u.deadline, prevSeq := u.prevSeq,
                          prevStamp := u.prevStamp }

/-- INTAKE at RESET_PART (R42). -/
def Intake.parted (i : Intake) : Intake :=
  { units := ⟨i.units.headL.parted, i.units.headR.parted, i.units.inertial.parted, i.units.marker.parted⟩,
    queueL := [], queueR := [], queueI := [], refTime := none }

/-- Steps 1 and 2 of R183: the run is IDLE, and every block takes its RESET_PART values. The streams stand until
`resetNotices` ends them. -/
def partBlocks (s : State) : State :=
  { s with
    run := { s.run with state := .idle },
    odo := s.odo.parted s.run.settings s.now, intake := s.intake.parted,
    grid := Grid.reset, geo := Geo.reset, store := s.store.emptied,
    pos := { Pos.reset with markers := s.pos.markers },
    cls := s.cls.lookupsCleared, exm := Exm.reset }

/-- The pending END_RUN is refused WRONG_STATE, with the recorded tag (R182). -/
def refusePendingEnd (s : State) : State :=
  match s.run.pendingEnd with
  | some (q, tag) =>
    let s1 := setInService q none (refuse q RequestKind.endRun.code tag .wrongState 0 s)
    { s1 with run := { s1.run with pendingEnd := none } }
  | none => s

/-- The CLAIM of the claimant is refused WRONG_STATE (R183, step 3). -/
def refuseClaimant (s : State) : State :=
  match s.svc.claimant with
  | some q => refuseClaim q .wrongState s
  | none => s

/-- The notice queues are flushed, then STREAM_END RESET, RUN RESET with W and C as they stood, and AUTHORITY when a
port held authority (R183 step 4, R184). -/
def resetNotices (w c : Option Nat) (s : State) : State :=
  let s1 := endAllStreams .reset (s.mapPorts fun q => { q with notices := [] })
  let s2 := offerAll everyPort .run (runWords .reset w c s1) s1
  if s.svc.holder.isSome then setHolder none .reset s2 else clearClaim s2

/-- RESET_PART after the authority check (R183, R184). -/
def resetPartBody (p : PortId) (r : Request) (s : State) : State :=
  let s1 := resetNotices s.store.w s.store.c (refusePendingEnd (refuseClaimant (partBlocks s)))
  reply p r.tag [s1.run.number.setWidth 32] s1

/-! ### The commands -/

/-- START_RUN (R176, R177). -/
def execStartRun (port : PortId) (s : State) : Host.Outcome State Fault Refusal :=
  .next (serveHolder .startRun (exactly 3) port (startRunBody port) s)

/-- END_RUN (R179 to R181). -/
def execEndRun (port : PortId) (s : State) : Host.Outcome State Fault Refusal :=
  .next (serveHolder .endRun (exactly 0) port (endRunBody port) s)

/-- RESET_PART (R183, R184). -/
def execResetPart (port : PortId) (s : State) : Host.Outcome State Fault Refusal :=
  .next (serveHolder .resetPart (exactly 0) port (resetPartBody port) s)

end Sys2Proof.Machine
end

