-- ==== Sys2Proof/Config.lean ====
section
/-!
DEFINITION. What the spec leaves open, as constants without a body. Nothing can be proved about their values.
-/

namespace Sys2Proof

/-- A word whose value the spec does not state. It is applied to `State.freeCount`, which rises at each use, so
each use is a fresh value (notes/assumptions/15.md). Used for the satisfied set of R59 when no point is awaited.
DESIGN CHOICE, safe. -/
opaque Config.freeWord : Nat → Word

end Sys2Proof
end

