-- ==== Sys2Proof/Machine/Status.lean ====
section
/-!
DEFINITION. READ_STATUS (R215): the item words of its seven groups, in the order of the rules that give them (R22, R41,
R59, R88, R112, R133, R149, R173, R189, R208). notes/assumptions/16.md names the orders that the rules leave open.
-/

namespace Sys2Proof.Machine

/-- Two words of FFFFFFFFh for an absent value, else its low and high word (R215). -/
def twoWordsOrAbsent (o : Option Nat) : List Word := (o.map twoWords).getD [Word.absent, Word.absent]

/-- RUN's items (R189). -/
def runItems (s : State) : List Word :=
  let r := s.run
  let stage : Option Nat := match r.state with
    | .finishing st => some st.code
    | .idle => none
    | .running => none
  [ wordOfNat r.state.code, wordOrAbsent stage, r.number.setWidth 32,
    wordOrAbsent (r.record.map (·.direction.code)), wordOrAbsent (r.record.map (·.sense.code)),
    (r.record.map fun x => wordOfInt x.start).getD Word.absent ] ++
  twoWordsOrAbsent (r.record.map (·.t0)) ++
  [ wordOrAbsent (r.pendingEnd.map (·.1.code)), wordOfNat r.loadCount ]

/-- A port's items (R208). -/
def portItems (q : Port) : List Word :=
  [ wordOfNat q.state.code, wordOfNat q.inbox.length, wordOfNat q.replies.length, wordOfNat q.notices.length,
    wordOfNat q.badFrames, wordOfNat q.correctedHeaders, wordOfNat q.sequenceGaps, wordOfNat q.inboxDrops,
    wordOfNat q.lostNotices, wordOfNat q.presenceTimeouts, wordOfNat q.bars, wordOfNat q.barredDrops ]

/-- ODO's items (R22). -/
def odoItems (o : Odo) : List Word :=
  [ wordOfNat o.state.code, wordOfNat o.believed.code, wordOfBool o.backtrack ] ++
  twoWordsInt o.runDistance ++ twoWordsInt o.highWater ++ twoWordsInt o.tach.t1.dist ++ twoWordsInt o.tach.t2.dist ++
  [ wordOfNat o.lastSpeed, wordOfNat o.tach.t1.glitches, wordOfNat o.tach.t2.glitches, wordOfNat o.judged,
    wordOfNat o.discarded, wordOfNat o.disagreeing, wordOfNat o.agreeRun, wordOfNat o.disagreeRun ]

/-- Depth and newest stamp of a queue (R41). -/
def queueItems {α : Type} (q : List (Entry α)) : List Word :=
  wordOfNat q.length :: twoWordsOrAbsent (q.getLast?.map (·.stamp))

/-- The six counters that every source has (R41). -/
def commonItems (u : SourceUnit) : List Word :=
  [ wordOfNat u.badFrames, wordOfNat u.correctedHeaders, wordOfNat u.kindMismatches, wordOfNat u.linkLosses,
    wordOfNat u.missing, wordOfNat u.nonmonotone ]

/-- A head source's items (R41). -/
def headItems (u : SourceUnit) (q : List (Entry HeadVals)) : List Word :=
  [wordOfNat u.state.code] ++ queueItems q ++ commonItems u ++
    [wordOfNat u.spotLosses, wordOfNat u.overrun, wordOfNat u.late]

/-- INTAKE's items, for HEAD_L, HEAD_R, INERTIAL and MARKER in turn (R41, R215). -/
def intakeItems (i : Intake) : List Word :=
  headItems i.units.headL i.queueL ++ headItems i.units.headR i.queueR ++
  [wordOfNat i.units.inertial.state.code] ++ queueItems i.queueI ++ commonItems i.units.inertial ++
  [ wordOfNat i.units.inertial.clampedSamples, wordOfNat i.units.inertial.overrun,
    wordOfNat i.units.inertial.late ] ++
  [wordOfNat i.units.marker.state.code] ++ commonItems i.units.marker ++
  [wordOfNat i.units.marker.weakReads, wordOfNat i.units.marker.passedReads]

/-- The satisfied set of the awaited point; a free value when no point is awaited (R59, notes/assumptions/15.md). -/
def satisfiedWord (s : State) : Word :=
  match s.grid.waiting with
  | c :: _ =>
    let v := satisfied s c.crossing
    maskOf [(0, v.headL), (1, v.headR), (2, v.inertial)]
  | [] => Config.freeWord s.freeCount

/-- One word for each of the three queued sources. -/
def perQueuedWords (f : GridSource → Nat) (u : PerQueued GridSource) : List Word :=
  [wordOfNat (f u.headL), wordOfNat (f u.headR), wordOfNat (f u.inertial)]

/-- GRID's items (R59). -/
def gridItems (s : State) : List Word :=
  let u := s.grid.units
  [ wordOrAbsent s.store.f, wordOrAbsent (s.grid.waiting.head?.map (·.index)), satisfiedWord s ] ++
  perQueuedWords (·.holdCount) u ++ perQueuedWords (·.heldPoints) u ++ perQueuedWords (·.voidPoints) u ++
  perQueuedWords (·.deadlinePoints) u ++ [wordOfNat s.grid.clampedPoints]

/-- GEO's items (R88). -/
def geoItems (g : Geo) : List Word :=
  [wordOfNat g.low.code] ++
  wordOfInt g.vl.slope :: twoWordsInt g.vl.disp ++
  wordOfInt g.vr.slope :: twoWordsInt g.vr.disp ++
  wordOfInt g.lat.slope :: twoWordsInt g.lat.disp ++
  [ wordOfBool g.tailDone, wordOfNat g.seams, wordOfNat g.lowEntries, wordOfNat g.clampsVL, wordOfNat g.clampsVR,
    wordOfNat g.clampsLat ] ++
  Param.all.map fun p => wordOfNat (g.valueClamps.get p)

/-- STORE's items for the requesting port (R112). -/
def storeItems (p : PortId) (s : State) : List Word :=
  let x := s.stream p
  [ wordOrAbsent s.store.w, wordOrAbsent s.store.c, wordOrAbsent s.store.oldest, wordOfNat s.store.overwritten,
    wordOfBool x.isSome, wordOrAbsent (x.map (·.cursor)), wordOrAbsent (x.bind (·.remaining)),
    (x.map fun st => st.tag.setWidth 32).getD Word.absent, wordOrAbsent (x.map (·.delivered)),
    wordOrAbsent (x.map (·.lost)) ]

/-- CLS's items (R149). -/
def clsItems (s : State) : List Word :=
  [ wordOfNat s.cls.sections.length, wordOfNat s.cls.editCount, wordOfNat s.cls.loads, wordOfNat s.cls.inSection,
    wordOfNat s.cls.defaulted,
    (s.horizon.map fun h => wordOfInt (limit int32Min int32Max h)).getD Word.absent ]

/-- POS's items (R133). -/
def posItems (ps : Pos) : List Word :=
  let fix : List Word := match ps.lastFix with
    | some (ident, d) => [1#32, wordOfNat ident] ++ twoWordsInt d
    | none => [0#32, Word.absent, Word.absent, Word.absent]
  [ wordOfNat ps.state.code, wordOfInt ps.base, wordOfNat ps.sense.code, wordOfInt ps.applied, wordOfInt ps.target,
    wordOfNat ps.mismatch, wordOfBool ps.pendingRebase ] ++ fix ++
  [ (ps.lastChainage.map wordOfInt).getD Word.absent, wordOfNat ps.markers.length, wordOfNat ps.acceptedFixes,
    wordOfNat ps.mismatches, wordOfNat ps.markerRebases, wordOfNat ps.manualFixes, wordOfNat ps.idleReads,
    wordOfNat ps.earlyReads, wordOfNat ps.unknownReads, wordOfNat ps.repeatReads, wordOfNat ps.outOfRange,
    wordOfNat ps.chainageLimits ]

/-- Whether a parameter has an open record. -/
def Exm.isOpen (e : Exm) (p : Param) : Bool := (e.groups.get p).current.isSome

/-- EXM's items (R173). -/
def exmItems (e : Exm) : List Word :=
  [ wordOfNat e.records.length, wordOfNat (Param.all.countP e.isOpen),
    maskOf (Param.all.map fun p => (p.code, e.isOpen p)),
    wordOfNat (e.records.countP fun r => decide (r.urgency = .unacked)), wordOfNat e.nextId,
    wordOfNat e.pointsJudged, wordOfNat e.exceedingPoints, wordOfNat e.suppressedPoints,
    wordOfNat e.recordsOpened, wordOfNat e.recordsClosed, wordOfNat e.evicted, wordOfNat e.dropped,
    wordOfNat e.urgentRecords, wordOfNat e.acknowledgements ]

/-- The item words of a full group, for the requesting port (R215). -/
def statusItems (group : Nat) (p : PortId) (s : State) : List Word :=
  match group with
  | 0 => runItems s ++ PortId.all.flatMap fun q => portItems (s.port q)
  | 1 => odoItems s.odo
  | 2 => intakeItems s.intake
  | 3 => gridItems s ++ geoItems s.geo
  | 4 => storeItems p s ++ clsItems s
  | 5 => posItems s.pos
  | _ => exmItems s.exm

/-- READ_STATUS: the reply is cut short at max_reply_words, and the sending port's attention set is emptied (R215,
R207). Group 3 with no awaited point uses a free value up. -/
def readStatusBody (p : PortId) (r : Request) (s : State) : State :=
  let group := (payloadWord r.payload 1).toNat
  if 6 < group then refuse p r.kind r.tag .range 1 s
  else
    let items := statusItems group p s
    let words := [wordOfNat group, (s.port p).attention.setWidth 32, wordOfNat items.length] ++ items
    let s1 := reply p r.tag (words.take (maxWords p s - 1)) s
    let s2 := s1.setPort p ((s1.port p).withAttention 0#12)
    if group = 3 ∧ s.grid.waiting = [] then { s2 with freeCount := s.freeCount + 1 } else s2

/-- READ_STATUS (R215). -/
def execReadStatus (port : PortId) (s : State) : Host.Outcome State Fault Refusal :=
  .next (serveKind .readStatus (exactly 1) port (readStatusBody port) s)

end Sys2Proof.Machine
end

