-- ==== Sys2Proof/Machine/Tables.lean ====
section
/-!
DEFINITION. The edits of the tables: threshold sets (R145, R146), sections (R138 to R142) and markers (R118, R119), and
MANUAL_FIX (R129).
-/

namespace Sys2Proof.Machine

/-! ### Threshold sets -/

/-- One class's threshold set replaced (R146). -/
def Cls.loaded (t : Cls) (k : Fin 8) (x : PerParam Limits) : Cls :=
  { t with thresholds := t.thresholds.set k.val x k.isLt, loads := inc16 t.loads }

/-- LOAD_THRESHOLDS after the authority check (R145, R146). -/
def loadThresholdsBody (p : PortId) (r : Request) (s : State) : State :=
  if s.run.state ≠ .idle then refuse p r.kind r.tag .wrongState 0 s
  else
    let cls := (payloadWord r.payload 1).toNat
    if 7 < cls then refuse p r.kind r.tag .range 1 s
    else
      match (List.range 48).find? (fun i => !limitOk r.payload i) with
      | some i => refuse p r.kind r.tag .range (2 + i) s
      | none =>
        reply p r.tag [wordOfNat cls] { s with cls := s.cls.loaded (Fin.ofNat 8 cls) (thresholdsOf r.payload) }

/-! ### Sections -/

/-- The position of an id in the section table. -/
def sectionPosition (id : Nat) (l : List SectionEntry) : Nat := l.findIdx fun e => decide (e.id = id)

/-- The table after an accepted SECTION_PUT: an earlier entry of the same id is gone, the new one stands at its place
in start order (R139). -/
def putSection (e : SectionEntry) (l : List SectionEntry) : List SectionEntry :=
  insertSection e (removeSection e.id l)

/-- SECTION_PUT after the authority check (R138, R139). -/
def sectionPutBody (p : PortId) (r : Request) (s : State) : State :=
  match parseSection r.payload with
  | .error (why, n) => refuse p r.kind r.tag why n s
  | .ok e =>
    match putRefusal e s with
    | some why => refuse p r.kind r.tag why 0 s
    | none =>
      let replaced := (findSection e.id s.cls.sections).isSome
      let l := putSection e s.cls.sections
      reply p r.tag [wordOfBool replaced, wordOfNat l.length, wordOfNat (sectionPosition e.id l)]
        { s with cls := s.cls.edited l }

/-- SECTION_DROP after the authority check (R141). -/
def sectionDropBody (p : PortId) (r : Request) (s : State) : State :=
  let id := (payloadWord r.payload 1).toNat
  match findSection id s.cls.sections with
  | none => refuse p r.kind r.tag .unknownId 0 s
  | some e =>
    if s.clearOfHorizon e.start e.stop then
      let l := removeSection id s.cls.sections
      reply p r.tag [wordOfNat l.length] { s with cls := s.cls.edited l }
    else refuse p r.kind r.tag .tooClose 0 s

/-- SECTION_CLEAR after the authority check (R142). -/
def sectionClearBody (p : PortId) (r : Request) (s : State) : State :=
  if s.run.state = .idle then
    reply p r.tag [wordOfNat s.cls.sections.length] { s with cls := s.cls.edited [] }
  else refuse p r.kind r.tag .wrongState 0 s

/-! ### Markers -/

/-- MARKER_PUT after the authority check (R118). -/
def markerPutBody (p : PortId) (r : Request) (s : State) : State :=
  let ident := (payloadWord r.payload 1).toNat
  let held := (markerChainage ident s.pos.markers).isSome
  if held = false ∧ markerCapacity ≤ s.pos.markers.length then refuse p r.kind r.tag .tableFull 0 s
  else
    let l := putMarker ident (payloadWord r.payload 2).toInt s.pos.markers
    reply p r.tag [wordOfBool held, wordOfNat l.length] { s with pos := { s.pos with markers := l } }

/-- MARKER_DROP after the authority check (R119). -/
def markerDropBody (p : PortId) (r : Request) (s : State) : State :=
  let ident := (payloadWord r.payload 1).toNat
  if (markerChainage ident s.pos.markers).isSome then
    let l := dropMarker ident s.pos.markers
    reply p r.tag [wordOfNat l.length] { s with pos := { s.pos with markers := l } }
  else refuse p r.kind r.tag .unknownId 0 s

/-- MARKER_CLEAR after the authority check (R119). -/
def markerClearBody (p : PortId) (r : Request) (s : State) : State :=
  if s.run.state = .idle then
    reply p r.tag [wordOfNat s.pos.markers.length] { s with pos := { s.pos with markers := [] } }
  else refuse p r.kind r.tag .wrongState 0 s

/-! ### MANUAL_FIX -/

/-- The offset that a stated chainage for point `w` gives (R129). -/
def Pos.manualOffset (ps : Pos) (chainage : Int) (w : Nat) : Int := chainage - ps.base - ps.sense.sign * w * 250

/-- POS after an accepted MANUAL_FIX (R129). -/
def Pos.manual (ps : Pos) (offset : Int) : Pos :=
  { ps with applied := offset, target := offset, pendingRebase := true, state := .fixed, mismatch := 0,
            lastFix := none, manualFixes := inc16 ps.manualFixes }

/-- MANUAL_FIX after the authority check (R129). The change of applied offset in its notice is limited to the signed
32-bit range (R128, notes/assumptions/31.md). -/
def manualFixBody (p : PortId) (r : Request) (s : State) : State :=
  if s.run.state ≠ .running then refuse p r.kind r.tag .wrongState 0 s
  else
    let w := s.store.w.getD 0
    let offset := s.pos.manualOffset (payloadWord r.payload 1).toInt w
    if inInt32 offset then
      reply p r.tag [wordOfNat (w + 1), wordOfInt offset]
        (locationNotice .rebase none (offset - s.pos.applied) s.odo.runDistance s.now
          { s with pos := s.pos.manual offset })
    else refuse p r.kind r.tag .range 1 s

/-! ### The commands -/

/-- LOAD_THRESHOLDS (R145, R146). -/
def execLoadThresholds (port : PortId) (s : State) : Host.Outcome State Fault Refusal :=
  .next (serveHolder .loadThresholds (exactly 25) port (loadThresholdsBody port) s)

/-- SECTION_PUT (R138, R139). -/
def execSectionPut (port : PortId) (s : State) : Host.Outcome State Fault Refusal :=
  .next (serveHolder .sectionPut (fun n => decide (6 ≤ n) && decide (n ≤ 10)) port (sectionPutBody port) s)

/-- SECTION_DROP (R141). -/
def execSectionDrop (port : PortId) (s : State) : Host.Outcome State Fault Refusal :=
  .next (serveHolder .sectionDrop (exactly 1) port (sectionDropBody port) s)

/-- SECTION_CLEAR (R142). -/
def execSectionClear (port : PortId) (s : State) : Host.Outcome State Fault Refusal :=
  .next (serveHolder .sectionClear (exactly 0) port (sectionClearBody port) s)

/-- MARKER_PUT (R118). -/
def execMarkerPut (port : PortId) (s : State) : Host.Outcome State Fault Refusal :=
  .next (serveHolder .markerPut (exactly 2) port (markerPutBody port) s)

/-- MARKER_DROP (R119). -/
def execMarkerDrop (port : PortId) (s : State) : Host.Outcome State Fault Refusal :=
  .next (serveHolder .markerDrop (exactly 1) port (markerDropBody port) s)

/-- MARKER_CLEAR (R119). -/
def execMarkerClear (port : PortId) (s : State) : Host.Outcome State Fault Refusal :=
  .next (serveHolder .markerClear (exactly 0) port (markerClearBody port) s)

/-- MANUAL_FIX (R129). -/
def execManualFix (port : PortId) (s : State) : Host.Outcome State Fault Refusal :=
  .next (serveHolder .manualFix (exactly 1) port (manualFixBody port) s)

end Sys2Proof.Machine
end

