-- ==== Sys2Proof/Machine/Intake.lean ====
section
/-!
DEFINITION. INTAKE (chapter 2): the checks on a sensor frame, source states, the way of a sample from its frame to its
queue or to POS; and the alignment deadline, which GRID takes (R44, R46).
-/

namespace Sys2Proof.Machine

/-! ### Units and queues -/

/-- The unit of a source. -/
def State.unit (s : State) (c : Source) : SourceUnit := s.intake.units.get c

/-- Changes the unit of a source. -/
def updateUnit (c : Source) (f : SourceUnit → SourceUnit) (s : State) : State :=
  { s with intake := { s.intake with units := s.intake.units.set c (f (s.intake.units.get c)) } }

/-- The latency setting of a source (R34, R185). -/
def Settings.latency (t : Settings) : Source → Nat
  | .headL => t.latencyL
  | .headR => t.latencyR
  | .inertial => t.latencyI
  | .marker => t.latencyM

/-- Whether a source has a queue, so that GRID waits for it (R44). -/
def isQueued : Source → Bool
  | .headL => true
  | .headR => true
  | .inertial => true
  | .marker => false

/-! ### Source states (R27 to R29) -/

/-- The SOURCE notice of a change of source state (R29, R223). -/
def sourceNotice (c : Source) (before after : SourceState) (s : State) : State :=
  offerAll wantsSource .source
    [wordOfNat c.code, wordOfNat before.code, wordOfNat after.code, wordOfNat s.now] s

/-- A change of source state, with its notice (R29). -/
def changeSource (c : Source) (after : SourceState) (s : State) : State :=
  sourceNotice c (s.unit c).state after (updateUnit c (fun u => { u with state := after }) s)

/-- GRID is told of a change of source state, and examines when the source is a queued one (R29, R46). -/
def tellGrid (c : Source) (s : State) : State := if isQueued c then examine s else s

/-- A valid frame refreshes liveness: a new stale deadline, and LIVE (R27). A deadline above 2^48 - 1 stands as it is
(R2, notes/assumptions/30.md). -/
def refreshLiveness (c : Source) (s : State) : State :=
  let s1 := updateUnit c (fun u => { u with deadline := some (s.now + s.run.settings.staleMs * 1000) }) s
  if (s.unit c).state = .live then s1 else changeSource c .live s1

/-- A LIVE source becomes STALE and its deadline no longer exists (R27, R28). -/
def loseLiveness (c : Source) (s : State) : State :=
  if (s.unit c).state = .live then
    tellGrid c (changeSource c .stale (updateUnit c (fun u => { u with deadline := none }) s))
  else s

/-- The timebase reaches the stale deadline of a LIVE source (R27). -/
def staleDeadline (c : Source) (s : State) : State :=
  match (s.unit c).deadline with
  | some d => if d ≤ s.now then loseLiveness c s else s
  | none => s

/-- A link-down report from a sensor receiver (R24, R28). -/
def sensorLinkDown (c : Source) (s : State) : State :=
  loseLiveness c (updateUnit c (fun u => { u with linkUp := false, linkLosses := inc16 u.linkLosses }) s)

/-- A link-up report from a sensor receiver: no state of INTAKE changes (R24); the receiver receives again. -/
def sensorLinkUp (c : Source) (s : State) : State := updateUnit c (fun u => { u with linkUp := true }) s

/-! ### Fields of the frames (02 section 2.1) -/

/-- The sample sequence number (02 section 2.1). -/
def seqField (payload : List Word) : Nat := (payloadWord payload 1).toNat % 65536

/-- Spot valid of a HEAD_SAMPLE. -/
def spotValid (payload : List Word) : Bool := (payloadWord payload 1).getLsbD 16

/-- g and h of a HEAD_SAMPLE. -/
def headFields (payload : List Word) : HeadVals :=
  { g := signedHalf (payloadWord payload 2) false, h := signedHalf (payloadWord payload 2) true }

/-- The five values of an INERTIAL_SAMPLE, before limiting. -/
def inertialFields (payload : List Word) : InertialVals :=
  { aL := (payloadWord payload 2).toInt, aR := (payloadWord payload 3).toInt, aLat := (payloadWord payload 4).toInt,
    theta := (payloadWord payload 5).toInt, omega := (payloadWord payload 6).toInt }

/-- The strength of a MARKER_READ. -/
def strengthField (payload : List Word) : Nat := ((payloadWord payload 1).extractLsb' 16 8).toNat

/-- The five values limited (R32). -/
def InertialVals.limited (v : InertialVals) : InertialVals :=
  { aL := limit (-50000) 50000 v.aL, aR := limit (-50000) 50000 v.aR, aLat := limit (-50000) 50000 v.aLat,
    theta := limit (-200000) 200000 v.theta, omega := limit (-2000000) 2000000 v.omega }

/-! ### Tracking and stamping (R30, R34) -/

/-- Sequence tracking of a valid frame (R30). -/
def SourceUnit.track (u : SourceUnit) (seq : Nat) : SourceUnit :=
  { u with
    missing := match u.prevSeq with
      | some prev => addSat16 u.missing ((seq + 131072 - prev - 1) % 65536)
      | none => u.missing,
    prevSeq := some seq }

/-- The stamp of a sample that arrives at `now`, or none where R34 discards it. -/
def SourceUnit.stampFor (u : SourceUnit) (latency now : Nat) : Option Nat :=
  if now < latency then none
  else
    match u.prevStamp with
    | some prev => if prev < now - latency then some (now - latency) else none
    | none => some (now - latency)

/-- Stamps a sample that reaches stamping and hands it on, or discards it (R34). -/
def stampSample (c : Source) (handOn : Nat → State → State) (s : State) : State :=
  match (s.unit c).stampFor (s.run.settings.latency c) s.now with
  | some t => handOn t (updateUnit c (fun u => { u with prevStamp := some t }) s)
  | none => updateUnit c (fun u => { u with nonmonotone := inc16 u.nonmonotone }) s

/-! ### Entry into the queue (R36 to R38) -/

/-- Whether a stamp stands at or below the reference time, where one exists (R37). -/
def atOrBelow (refTime : Option Nat) (t : Nat) : Bool :=
  match refTime with
  | some r => decide (t ≤ r)
  | none => false

/-- Whether the oldest entry, which a full queue gives up, is later than the reference time (R38). -/
def overruns {α : Type} (refTime : Option Nat) (q : List (Entry α)) : Bool :=
  match q with
  | e :: _ => decide (sampleCapacity ≤ q.length) && !atOrBelow refTime e.stamp
  | [] => false

/-- A queue with an entry appended; a full one gives up its oldest entry first (R37, R38). -/
def appendEntry {α : Type} (q : List (Entry α)) (e : Entry α) : List (Entry α) :=
  (if sampleCapacity ≤ q.length then q.drop 1 else q) ++ [e]

/-- The source's counters after its sample has entered the queue (R37, R38). -/
def SourceUnit.queued (u : SourceUnit) (isLate isOverrun : Bool) : SourceUnit :=
  { u with late := if isLate then inc16 u.late else u.late,
           overrun := if isOverrun then inc16 u.overrun else u.overrun }

/-- A stamped head sample enters its queue in RUNNING and FINISHING, and GRID is told (R37). -/
def queueHead (left : Bool) (v : HeadVals) (t : Nat) (s : State) : State :=
  if s.run.state = .idle then s
  else
    let e : Entry HeadVals := { stamp := t, vals := v, clamp := false }
    let ref := s.intake.refTime
    let q := if left then s.intake.queueL else s.intake.queueR
    let s1 := updateUnit (if left then .headL else .headR) (·.queued (atOrBelow ref t) (overruns ref q)) s
    examine { s1 with intake :=
      if left then { s1.intake with queueL := appendEntry q e } else { s1.intake with queueR := appendEntry q e } }

/-- A stamped INERTIAL sample enters its queue in RUNNING and FINISHING, and GRID is told (R37). -/
def queueInertial (v : InertialVals) (clamp : Bool) (t : Nat) (s : State) : State :=
  if s.run.state = .idle then s
  else
    let ref := s.intake.refTime
    let q := s.intake.queueI
    let s1 := updateUnit .inertial (·.queued (atOrBelow ref t) (overruns ref q)) s
    examine { s1 with intake := { s1.intake with queueI := appendEntry q { stamp := t, vals := v, clamp } } }

/-! ### From valid frame to sample (section 2.4) -/

/-- A HEAD_SAMPLE after sequence tracking (R31). -/
def headSample (left : Bool) (payload : List Word) (s : State) : State :=
  let c : Source := if left then .headL else .headR
  if spotValid payload then stampSample c (queueHead left (headFields payload)) s
  else updateUnit c (fun u => { u with spotLosses := inc16 u.spotLosses }) s

/-- An INERTIAL_SAMPLE after sequence tracking: limiting, its count, stamping (R32). -/
def inertialSample (payload : List Word) (s : State) : State :=
  let raw := inertialFields payload
  let v := raw.limited
  let clamp : Bool := decide (v ≠ raw)
  let s1 :=
    if clamp then updateUnit .inertial (fun u => { u with clampedSamples := inc16 u.clampedSamples }) s else s
  stampSample .inertial (queueInertial v clamp) s1

/-- A MARKER_READ after sequence tracking (R33, R35). -/
def markerSample (payload : List Word) (s : State) : State :=
  if strengthField payload = 0 then updateUnit .marker (fun u => { u with weakReads := inc16 u.weakReads }) s
  else
    stampSample .marker
      (fun t x => takeMarkerRead (payloadWord payload 2).toNat t (runDistanceAt x t)
        (updateUnit .marker (fun u => { u with passedReads := inc16 u.passedReads }) x)) s

/-- The sample of a valid frame (R31 to R35). -/
def takeSample (c : Source) (payload : List Word) (s : State) : State :=
  match c with
  | .headL => headSample true payload s
  | .headR => headSample false payload s
  | .inertial => inertialSample payload s
  | .marker => markerSample payload s

/-- A valid frame of a source: liveness with its notice, sequence tracking, its sample, and then GRID is told of a change
to LIVE, so that the sample stands in its queue at that examination (R27, R29 to R35, R47,
notes/assumptions/26.md). -/
def validSensorFrame (c : Source) (payload : List Word) (s : State) : State :=
  let s1 := takeSample c payload (updateUnit c (·.track (seqField payload)) (refreshLiveness c s))
  if (s.unit c).state = .live then s1 else tellGrid c s1

/-- Counts a bad frame of a source (R25, R26). -/
def badSensorFrame (c : Source) (s : State) : State :=
  updateUnit c (fun u => { u with badFrames := inc16 u.badFrames }) s

/-- A frame that passed R25 is checked against its link (R26). -/
def checkedSensorFrame (c : Source) (f : RxFrame) (s : State) : State :=
  if f.kind ≠ c.frameKind then updateUnit c (fun u => { u with kindMismatches := inc16 u.kindMismatches }) s
  else if f.payload.length ≠ c.frameWords then badSensorFrame c s
  else validSensorFrame c f.payload s

/-- A sensor frame arrives; a receiver whose link is down receives none (R24, R25, notes/assumptions/7.md). -/
def sensorFrame (c : Source) (bytes : List Byte) (s : State) : State :=
  if (s.unit c).linkUp then
    let r := receive bytes
    let s1 :=
      if r.corrected then updateUnit c (fun u => { u with correctedHeaders := inc16 u.correctedHeaders }) s else s
    match r.result with
    | .error _ => badSensorFrame c s1
    | .ok f => checkedSensorFrame c f s1
  else s

/-- The timebase reaches the alignment deadline of the awaited point: GRID examines it (R44, R46). -/
def alignDeadline (s : State) : State := if deadlineReached s then examine s else s

/-! ### The commands -/

/-- SENSOR_FRAME_ARRIVAL (R24 to R38). -/
def execSensorFrameArrival (source : Source) (bytes : List Byte) (s : State) : Host.Outcome State Fault Refusal :=
  .next (sensorFrame source bytes s)

/-- SENSOR_LINK_DOWN (R24, R28). -/
def execSensorLinkDown (source : Source) (s : State) : Host.Outcome State Fault Refusal :=
  .next (sensorLinkDown source s)

/-- SENSOR_LINK_UP (R24). -/
def execSensorLinkUp (source : Source) (s : State) : Host.Outcome State Fault Refusal :=
  .next (sensorLinkUp source s)

/-- SOURCE_STALE_DEADLINE (R27). -/
def execSourceStaleDeadline (source : Source) (s : State) : Host.Outcome State Fault Refusal :=
  .next (staleDeadline source s)

/-- ALIGN_DEADLINE (R44, R46). -/
def execAlignDeadline (s : State) : Host.Outcome State Fault Refusal := .next (alignDeadline s)

end Sys2Proof.Machine
end

