-- ==== Sys2Proof/Machine/Links.lean ====
section
/-!
DEFINITION. PORT (chapter 10): the client receivers, the port supervisor with its four states, and the transmitter.
-/

namespace Sys2Proof.Machine

/-! ### Leaving ACTIVE (R201) -/

/-- A port as it leaves ACTIVE for another state (R201, R209). -/
def Port.left (q : Port) (dest : PortState) : Port :=
  { q with state := dest, inbox := [], inService := none, replies := [], notices := [], presenceAt := none, badRun := 0,
           attention := 0, attn := false, options := LinkOptions.default }

/-- A pending END_RUN of the port is cleared without an answer (R182). -/
def dropPendingEnd (p : PortId) (s : State) : State :=
  match s.run.pendingEnd with
  | some (q, _) => if q = p then { s with run := { s.run with pendingEnd := none } } else s
  | none => s

/-- A port leaves ACTIVE: its queues, stream, options and attention, and SVC is told (R201, R110, R182, R220). -/
def leaveActive (p : PortId) (dest : PortState) (s : State) : State :=
  dropAuthority p (dropPendingEnd p (setStream p none (s.setPort p ((s.port p).left dest))))

/-! ### Link reports (R198) -/

/-- What going OFFLINE also does to a port: it cuts short a frame, and its link state returns to reset (R196 to R198). -/
def Port.cut (q : Port) : Port :=
  { q with state := .offline, linkErrors := 0, txSeq := 0, rxSeq := none, sending := none }

/-- A link-down report of a client port (R198). -/
def clientLinkDown (p : PortId) (s : State) : State :=
  let s1 := if (s.port p).state = .active then leaveActive p .offline s else s
  s1.setPort p (s1.port p).cut

/-- A link-up report of a client port (R198). -/
def clientLinkUp (p : PortId) (s : State) : State :=
  if (s.port p).state = .offline then s.setPort p { s.port p with state := .silent } else s

/-- The timebase reaches the presence deadline of an ACTIVE port (R199). -/
def presenceDeadline (p : PortId) (s : State) : State :=
  match (s.port p).presenceAt with
  | some d =>
    if (s.port p).state = .active ∧ d ≤ s.now then
      let s1 := leaveActive p .silent s
      s1.setPort p { s1.port p with presenceTimeouts := inc16 (s1.port p).presenceTimeouts }
    else s
  | none => s

/-! ### Frames received (R194 to R200, R203) -/

/-- The flag of a bad frame (R197). -/
def BadCause.flag : BadCause → LinkError
  | .header => .headerBad
  | .byteCount => .lengthBad
  | .crc => .crcBad

/-- The port after its receiver has corrected a header (R194, R197). -/
def Port.corrected (q : Port) : Port :=
  { q.setError .headerCorrected with correctedHeaders := inc16 q.correctedHeaders }

/-- The flag and counter of a bad frame (R195, R197). -/
def Port.bad (q : Port) (why : BadCause) : Port :=
  { q.setError why.flag with badFrames := inc16 q.badFrames }

/-- A bad frame on a client port; in ACTIVE it can bar the port (R200). -/
def badClientFrame (p : PortId) (why : BadCause) (s : State) : State :=
  let q := (s.port p).bad why
  if q.state = .active then
    if s.run.settings.badFrameLimit ≤ q.badRun + 1 then
      let s1 := leaveActive p .barred (s.setPort p q)
      s1.setPort p { s1.port p with bars := inc16 (s1.port p).bars }
    else s.setPort p { q with badRun := q.badRun + 1 }
  else s.setPort p q

/-- Sequence tracking of a valid frame (R196). -/
def Port.track (q : Port) (seq : BitVec 2) : Port :=
  match q.rxSeq with
  | some prev =>
    if seq = prev + 1 then { q with rxSeq := some seq }
    else { q.setError .sequenceGap with rxSeq := some seq, sequenceGaps := inc16 q.sequenceGaps }
  | none => { q with rxSeq := some seq }

/-- A valid frame in ACTIVE, the entering frame included: bad-frame count 0 and a new presence deadline (R198, R199). -/
def Port.refreshed (q : Port) (deadline : Nat) : Port :=
  { q with state := .active, badRun := 0, presenceAt := some deadline }

/-- A request enters the inbox, or is dropped at a full one (R203). -/
def Port.receiveRequest (q : Port) (r : Request) : Port :=
  if q.inbox.length < inboxCapacity then { q with inbox := q.inbox ++ [r] }
  else { q.setError .inboxFull with inboxDrops := inc16 q.inboxDrops }

/-- A valid frame at a port whose link is up (R196, R198 to R200). -/
def Port.valid (q : Port) (f : RxFrame) (deadline : Nat) : Port :=
  let t := q.track f.seq
  if q.state = .barred ∧ f.kind ≠ RequestKind.rejoin.code then { t with barredDrops := inc16 t.barredDrops }
  else (t.refreshed deadline).receiveRequest { kind := f.kind, tag := f.tag, payload := f.payload }

/-- A valid frame on a client port, with the presence deadline that it sets (R199). A deadline above 2^48 - 1 stands as
it is (R2, notes/assumptions/30.md). -/
def validClientFrame (p : PortId) (f : RxFrame) (s : State) : State :=
  s.setPort p ((s.port p).valid f (s.now + s.run.settings.presenceMs * 1000))

/-- A frame arrives on a client port; in OFFLINE nothing is received (R192, R194, R195). -/
def clientFrame (p : PortId) (bytes : List Byte) (s : State) : State :=
  if (s.port p).state = .offline then s
  else
    let r := receive bytes
    let s1 := if r.corrected then s.setPort p (s.port p).corrected else s
    match r.result with
    | .error why => badClientFrame p why s1
    | .ok f => validClientFrame p f s1

/-! ### The transmitter (R206) -/

/-- The oldest frame of a reply queue, passing over reserved slots, and the queue without it (R204, R206). -/
def takeAnswer : List ReplySlot → Option (Answer × List ReplySlot)
  | [] => none
  | .frame a :: rest => some (a, rest)
  | .reserved :: rest => (takeAnswer rest).map fun x => (x.1, .reserved :: x.2)

/-- The port as its transmitter begins an answer: the link error set is its first word and becomes empty (R206). -/
def Port.beginAnswer (q : Port) (a : Answer) (rest : List ReplySlot) : Port :=
  { q with replies := rest, linkErrors := 0, txSeq := q.txSeq + 1,
           sending := some (frameBytes a.kind.code a.tag q.txSeq (q.linkErrors.setWidth 32 :: a.rest)) }

/-- The port as its transmitter begins a notice (R206). -/
def Port.beginNotice (q : Port) (n : Notice) (rest : List Notice) : Port :=
  { q with notices := rest, txSeq := q.txSeq + 1,
           sending := some (frameBytes n.cls.kind n.tag q.txSeq n.payload) }

/-- The transmitter takes the oldest answer, else the oldest notice, when it is free in ACTIVE; a notice taken tests the
port's stream. No frame begins before 2 ms (R206, R103, R191, notes/assumptions/9.md). -/
def transmitStart (p : PortId) (s : State) : State :=
  let q := s.port p
  if q.state = .active ∧ q.sending = none ∧ answerDelay ≤ s.now then
    match takeAnswer q.replies with
    | some (a, rest) => s.setPort p (q.beginAnswer a rest)
    | none =>
      match q.notices with
      | n :: rest => streamBuild p (s.setPort p (q.beginNotice n rest))
      | [] => s
  else s

/-- The transmitter has sent its frame and is free (R206). -/
def transmitEnd (p : PortId) (s : State) : State := s.setPort p { s.port p with sending := none }

/-! ### The commands -/

/-- CLIENT_FRAME_ARRIVAL (R192 to R200, R203). -/
def execClientFrameArrival (port : PortId) (bytes : List Byte) (s : State) : Host.Outcome State Fault Refusal :=
  .next (clientFrame port bytes s)

/-- CLIENT_LINK_DOWN (R198). -/
def execClientLinkDown (port : PortId) (s : State) : Host.Outcome State Fault Refusal :=
  .next (clientLinkDown port s)

/-- CLIENT_LINK_UP (R198). -/
def execClientLinkUp (port : PortId) (s : State) : Host.Outcome State Fault Refusal := .next (clientLinkUp port s)

/-- PRESENCE_DEADLINE (R199). -/
def execPresenceDeadline (port : PortId) (s : State) : Host.Outcome State Fault Refusal :=
  .next (presenceDeadline port s)

/-- TRANSMIT_FRAME_START (R206). -/
def execTransmitFrameStart (port : PortId) (s : State) : Host.Outcome State Fault Refusal :=
  .next (transmitStart port s)

/-- TRANSMIT_FRAME_END (R206). -/
def execTransmitFrameEnd (port : PortId) (s : State) : Host.Outcome State Fault Refusal :=
  .next (transmitEnd port s)

end Sys2Proof.Machine
end

