-- ==== Sys2Proof/Machine/Timebase.lean ====
section
/-!
DEFINITION. Reset, and the timebase (R2): power-on, RESETn, the wrap of the count, and the microsecond that passes when
no command waits.
-/

namespace Sys2Proof.Machine

/-! ### Reset (R23, R42, R60, R89, R113, R134, R150, R174, R191, R209, R217) -/

/-- A line at the end of reset: the filtered level is the raw level, taken without an edge (R23). -/
def LineState.afterReset (l : LineState) : LineState := { raw := l.raw, filtered := l.raw, candidate := none }

/-- The part after power-on or RESETn. The input pins, the sensor receivers' link reports, the waiting commands and the
count of free values are not the part's to reset (notes/assumptions/6.md, 7.md, 17.md). -/
def hardReset (s : State) : State :=
  { State.reset with
    odo := { Odo.reset with
      lines := ⟨s.odo.lines.t1A.afterReset, s.odo.lines.t1B.afterReset, s.odo.lines.t2A.afterReset,
        s.odo.lines.t2B.afterReset⟩ },
    intake := { Intake.reset with
      units :=
        ⟨{ SourceUnit.reset with linkUp := s.intake.units.headL.linkUp },
         { SourceUnit.reset with linkUp := s.intake.units.headR.linkUp },
         { SourceUnit.reset with linkUp := s.intake.units.inertial.linkUp },
         { SourceUnit.reset with linkUp := s.intake.units.marker.linkUp }⟩ },
    freeCount := s.freeCount, pending := s.pending }

/-- The count wraps: the part resets itself as by RESETn, and counts from 0. Before 2^48 - 1 there is no wrap (R2). -/
def timebaseWrap (s : State) : State := if timebaseEnd ≤ s.now then hardReset s else s

/-! ### One microsecond (notes/assumptions/1.md, 5.md) -/

/-- Takes every event that the count has reached: edges, stale deadlines, the alignment deadline, presence deadlines,
the yield deadline, and SPACING. -/
def takeDue (s : State) : State :=
  let s1 := takeDueEdges s
  let s2 := [Source.headL, .headR, .inertial, .marker].foldl (fun t c => staleDeadline c t) s1
  let s3 := PortId.all.foldl (fun t p => presenceDeadline p t) (alignDeadline s2)
  spacingStart (spacingEnd (yieldDeadline s3))

/-- A step on an empty queue: the events due at the count are taken, then the count rises by one, or wraps (R2). -/
def tick (s : State) : State :=
  if timebaseEnd ≤ s.now then hardReset s
  else
    let s1 := takeDue s
    { s1 with now := s1.now + 1 }

/-! ### The commands -/

/-- POWER_ON (R191 and the reset values of every chapter). -/
def execPowerOn (s : State) : Host.Outcome State Fault Refusal := .next (hardReset s)

/-- RESETN (R191 and the reset values of every chapter). -/
def execResetn (s : State) : Host.Outcome State Fault Refusal := .next (hardReset s)

/-- TIMEBASE_WRAP (R2). -/
def execTimebaseWrap (s : State) : Host.Outcome State Fault Refusal := .next (timebaseWrap s)

end Sys2Proof.Machine
end

