-- ==== Sys2Proof/Machine/Dispatch.lean ====
section
/-!
DEFINITION. One arm for each command of spec/opcode_table.json, each one call of the command's meaning.
-/

namespace Sys2Proof.Machine

/-- The effect of a command on everything but the queue of waiting commands. -/
def exec (i : Instr) (s : State) : Host.Outcome State Fault Refusal :=
  match i with
  | .powerOn => Sys2Proof.Machine.execPowerOn s
  | .resetn => Sys2Proof.Machine.execResetn s
  | .timebaseWrap => Sys2Proof.Machine.execTimebaseWrap s
  | .tachRawChange line level => Sys2Proof.Machine.execTachRawChange line level s
  | .tachEdgeValidated line => Sys2Proof.Machine.execTachEdgeValidated line s
  | .spacingPulseStart => Sys2Proof.Machine.execSpacingPulseStart s
  | .spacingPulseEnd => Sys2Proof.Machine.execSpacingPulseEnd s
  | .sensorFrameArrival source bytes => Sys2Proof.Machine.execSensorFrameArrival source bytes s
  | .sensorLinkDown source => Sys2Proof.Machine.execSensorLinkDown source s
  | .sensorLinkUp source => Sys2Proof.Machine.execSensorLinkUp source s
  | .sourceStaleDeadline source => Sys2Proof.Machine.execSourceStaleDeadline source s
  | .alignDeadline => Sys2Proof.Machine.execAlignDeadline s
  | .clientFrameArrival port bytes => Sys2Proof.Machine.execClientFrameArrival port bytes s
  | .clientLinkDown port => Sys2Proof.Machine.execClientLinkDown port s
  | .clientLinkUp port => Sys2Proof.Machine.execClientLinkUp port s
  | .presenceDeadline port => Sys2Proof.Machine.execPresenceDeadline port s
  | .transmitFrameStart port => Sys2Proof.Machine.execTransmitFrameStart port s
  | .transmitFrameEnd port => Sys2Proof.Machine.execTransmitFrameEnd port s
  | .yieldDeadline => Sys2Proof.Machine.execYieldDeadline s
  | .presence port => Sys2Proof.Machine.execPresence port s
  | .echo port => Sys2Proof.Machine.execEcho port s
  | .identify port => Sys2Proof.Machine.execIdentify port s
  | .setLink port => Sys2Proof.Machine.execSetLink port s
  | .readStatus port => Sys2Proof.Machine.execReadStatus port s
  | .readTable port => Sys2Proof.Machine.execReadTable port s
  | .readPoints port => Sys2Proof.Machine.execReadPoints port s
  | .streamPoints port => Sys2Proof.Machine.execStreamPoints port s
  | .stopStream port => Sys2Proof.Machine.execStopStream port s
  | .readExceedances port => Sys2Proof.Machine.execReadExceedances port s
  | .ackUrgent port => Sys2Proof.Machine.execAckUrgent port s
  | .claim port => Sys2Proof.Machine.execClaim port s
  | .yield port => Sys2Proof.Machine.execYield port s
  | .keep port => Sys2Proof.Machine.execKeep port s
  | .release port => Sys2Proof.Machine.execRelease port s
  | .rejoin port => Sys2Proof.Machine.execRejoin port s
  | .loadSettings port => Sys2Proof.Machine.execLoadSettings port s
  | .loadThresholds port => Sys2Proof.Machine.execLoadThresholds port s
  | .sectionPut port => Sys2Proof.Machine.execSectionPut port s
  | .sectionDrop port => Sys2Proof.Machine.execSectionDrop port s
  | .sectionClear port => Sys2Proof.Machine.execSectionClear port s
  | .markerPut port => Sys2Proof.Machine.execMarkerPut port s
  | .markerDrop port => Sys2Proof.Machine.execMarkerDrop port s
  | .markerClear port => Sys2Proof.Machine.execMarkerClear port s
  | .startRun port => Sys2Proof.Machine.execStartRun port s
  | .endRun port => Sys2Proof.Machine.execEndRun port s
  | .manualFix port => Sys2Proof.Machine.execManualFix port s
  | .resetPart port => Sys2Proof.Machine.execResetPart port s
  | .unknownKindRequest port => Sys2Proof.Machine.execUnknownKindRequest port s

end Sys2Proof.Machine
end

