-- ==== Sys2Proof/Safety.lean ====
section
/-!
DEFINITION. The terms in which the statements speak: the invariants of the part, block by block, and when SVC serves a
request.
-/

namespace Sys2Proof.Machine

/-! ### Events that are due (R4, R19, R27, R45, R199, R220) -/

/-- The count has reached the event that a command stands for: a candidate has held for glitch_us, a deadline is reached,
or SPACING has stood for 10 µs where it is to change. -/
inductive State.Due (s : State) : Instr → Prop
  | edge (l : TachLine) (t : Nat) : (s.odo.lines.get l).candidate = some t → t + s.run.settings.glitchUs ≤ s.now →
      State.Due s (.tachEdgeValidated l)
  | stale (c : Source) (d : Nat) : (s.unit c).state = .live → (s.unit c).deadline = some d → d ≤ s.now →
      State.Due s (.sourceStaleDeadline c)
  | align (d : Nat) : s.grid.deadline = some d → d ≤ s.now → State.Due s .alignDeadline
  | presence (p : PortId) (d : Nat) : (s.port p).state = .active → (s.port p).presenceAt = some d → d ≤ s.now →
      State.Due s (.presenceDeadline p)
  | yield (p : PortId) (d : Nat) : s.svc.claimant = some p → s.svc.yieldAt = some d → d ≤ s.now →
      State.Due s .yieldDeadline
  | fall : s.odo.spacingHigh = true → s.odo.spacingSince + 10 ≤ s.now → State.Due s .spacingPulseEnd
  | rise : s.odo.spacingHigh = false → 0 < s.odo.spacingOwed → s.odo.spacingSince + 10 ≤ s.now →
      State.Due s .spacingPulseStart

/-- The lines whose edges are due, in the order in which these are taken: by stamp, and at one stamp T1A, T1B, T2A, T2B
(R4, notes/assumptions/12.md). -/
structure State.DueEdges (s : State) (lines : List TachLine) : Prop where
  nodup : lines.Nodup
  due : ∀ l, l ∈ lines ↔ s.Due (.tachEdgeValidated l)
  ordered : lines.Pairwise fun a b =>
    ∀ x y, (s.odo.lines.get a).candidate = some x → (s.odo.lines.get b).candidate = some y →
      x < y ∨ (x = y ∧ [TachLine.t1A, .t1B, .t2A, .t2B].idxOf a < [TachLine.t1A, .t1B, .t2A, .t2B].idxOf b)

/-- A command carried out after those that led to an outcome. -/
def carryOut (o : Host.Outcome State Fault Refusal) (c : Instr) : Host.Outcome State Fault Refusal :=
  match o with
  | .next s => exec c s
  | .fault f => .fault f
  | .refused r => .refused r

/-! ### Client ports (R198, R201, R202, R207, R209, R214) -/

/-- What a port holds when it is not ACTIVE (R201). -/
structure Port.Quiet (q : Port) (stream : Option Stream) : Prop where
  inbox : q.inbox = []
  inService : q.inService = none
  replies : q.replies = []
  notices : q.notices = []
  stream : stream = none
  presenceAt : q.presenceAt = none
  badRun : q.badRun = 0
  attention : q.attention = 0#12
  options : q.options = LinkOptions.default

/-- What an OFFLINE port holds besides (R196 to R198). -/
structure Port.Down (q : Port) : Prop where
  linkErrors : q.linkErrors = 0#7
  txSeq : q.txSeq = 0#2
  rxSeq : q.rxSeq = none
  sending : q.sending = none

/-- The invariant of one port with its stream. -/
structure Port.Ok (q : Port) (stream : Option Stream) : Prop where
  inbox : q.inbox.length ≤ inboxCapacity
  replies : q.replies.length ≤ replyCapacity
  notices : q.notices.length ≤ noticeCapacity
  attn : q.attn = true ↔ q.state = .active ∧ q.attention ≠ 0#12
  minWords : 12 ≤ q.options.maxReplyWords
  maxWords : q.options.maxReplyWords ≤ 255
  presence : q.state = .active → q.presenceAt.isSome = true
  quiet : q.state ≠ .active → q.Quiet stream
  down : q.state = .offline → q.Down

/-- Every port meets its invariant. -/
def PortsInv (s : State) : Prop := ∀ p, (s.port p).Ok (s.stream p)

/-! ### Requests in service and authority (R204, R210, R217) -/

/-- How many slots of a reply queue are reserved. -/
def reservedSlots (l : List ReplySlot) : Nat := l.countP fun x => decide (x = .reserved)

/-- A reply slot is reserved exactly for a request in service; the requests in service are those that RUN and SVC wait
to answer; the holder and the claimant are ACTIVE (R204, R210, R217). -/
structure ServiceInv (s : State) : Prop where
  reserved : ∀ p, reservedSlots (s.port p).replies = if (s.port p).inService = none then 0 else 1
  endRun : ∀ p tag, (s.port p).inService = some (.endRun tag) ↔ s.run.pendingEnd = some (p, tag)
  claim : ∀ p, (∃ tag, (s.port p).inService = some (.claim tag)) ↔ s.svc.claimant = some p
  quiet : ∀ p, (s.port p).state ≠ .active → (s.port p).inbox = [] ∧ (s.port p).inService = none
  holder : ∀ p, s.svc.holder = some p → (s.port p).state = .active
  claimant : ∀ p, s.svc.claimant = some p → s.svc.holder ≠ some p ∧ s.svc.holder ≠ none
  deadline : s.svc.yieldAt.isSome = s.svc.claimant.isSome

/-! ### The exceedance list (R154, R162, R164, R165) -/

/-- A record as the list may hold it: its level is 1 to 3, and it is or was urgent exactly at level 3 (R156, R164). -/
structure ExcRecord.Ok (r : ExcRecord) : Prop where
  minLevel : 1 ≤ r.level
  maxLevel : r.level ≤ 3
  urgent : r.urgency ≠ .notUrgent ↔ r.level = 3

/-- The exceedance list, its open records and the URGENT line (R154, R162, R164, R165). -/
structure ExmInv (e : Exm) : Prop where
  capacity : e.records.length ≤ recordCapacity
  ordered : e.records.Pairwise fun a b => a.id < b.id
  below : ∀ r ∈ e.records, r.id < e.nextId
  ok : ∀ r ∈ e.records, r.Ok
  urgent : e.urgent = true ↔ ∃ r ∈ e.records, r.urgency = .unacked
  held : ∀ p g, (e.groups.get p).current = some g →
    ∃ r ∈ e.records, r.id = g.id ∧ r.param = p ∧ r.side = g.side ∧ r.closing = none
  opened : ∀ r ∈ e.records, r.closing = none → ∃ g, (e.groups.get r.param).current = some g ∧ g.id = r.id

/-- The list has a place for a new record: it is not full, or holds a closed record that is not UNACKED (R163). -/
def Exm.HasPlace (e : Exm) : Prop :=
  e.records.length < recordCapacity ∨ ∃ r ∈ e.records, r.closing ≠ none ∧ r.urgency ≠ .unacked

/-- From `s` to `t`, the open record `x` of a parameter closes with a reason and an end point: the record takes both and
keeps the rest, the parameter has no open record and a clean count of 0, a LENGTH close leaves its mark, and the
EXCEEDANCE notice goes to the ports whose level mask holds the record's level. URGENT stands as it stood (R155). -/
structure RecordCloses (p : Param) (x : OpenGroup) (why : CloseReason) (index : Nat) (chainage : Int) (s t : State) :
    Prop where
  exm : t.exm = { s.exm with
    records := s.exm.records.map fun r => if r.id = x.id then { r with closing := some ⟨why, index, chainage⟩ } else r,
    groups := s.exm.groups.set p
      { current := none, clean := 0,
        lengthMark := if why = .length then some (index, x.side) else (s.exm.groups.get p).lengthMark },
    recordsClosed := min 65535 (s.exm.recordsClosed + 1) }
  told : ∀ r ∈ s.exm.records, r.id = x.id → ∀ j, t.port j =
    if (s.port j).options.levelMask.getLsbD (r.level - 1) then
      (s.port j).offer
        { cls := .exceedance, tag := 0#8,
          payload := ({ r with closing := some ⟨why, index, chainage⟩ } : ExcRecord).words }
    else s.port j
  frame : t = { s with exm := t.exm, ports := t.ports }

/-- The record that a parameter opens at a point (R156, R164). -/
def Exm.opened (e : Exm) (p : Param) (level : Nat) (side : Side) (value : Int) (place : PointPlace) : ExcRecord :=
  { id := e.nextId, param := p, side, level, startIndex := place.index, startChainage := place.chainage,
    peakValue := value, peakIndex := place.index, sectionId := place.sectionId, closing := none,
    continued := decide (1 ≤ place.index ∧ (e.groups.get p).lengthMark = some (place.index - 1, side)),
    urgency := if level = 3 then .unacked else .notUrgent }

/-- From `s` to `t`, a parameter opens a record: it takes the last place, a full list giving up its first closed record
that is not UNACKED; at level 3 it is UNACKED, which asserts URGENT and tells every ACTIVE port (R156, R163 to R165). -/
structure RecordOpens (p : Param) (level : Nat) (side : Side) (value : Int) (place : PointPlace) (s t : State) :
    Prop where
  room : s.exm.records.length < recordCapacity →
    t.exm.records = s.exm.records ++ [s.exm.opened p level side value place] ∧ t.exm.evicted = s.exm.evicted
  full : recordCapacity ≤ s.exm.records.length → ∀ front r back, s.exm.records = front ++ r :: back →
    (∀ y ∈ front, y.closing = none ∨ y.urgency = .unacked) → r.closing ≠ none → r.urgency ≠ .unacked →
    t.exm.records = front ++ back ++ [s.exm.opened p level side value place] ∧
      t.exm.evicted = min 65535 (s.exm.evicted + 1)
  exm : t.exm = { s.exm with
    records := t.exm.records, evicted := t.exm.evicted, nextId := s.exm.nextId + 1,
    recordsOpened := min 65535 (s.exm.recordsOpened + 1),
    urgent := s.exm.urgent || decide (level = 3),
    urgentRecords := if level = 3 then min 65535 (s.exm.urgentRecords + 1) else s.exm.urgentRecords,
    groups := s.exm.groups.set p { s.exm.groups.get p with
      current := some { id := s.exm.nextId, side, lastIndex := place.index, lastChainage := place.chainage },
      clean := 0 } }
  told : ∀ j, t.port j = if level = 3 then (s.port j).offer
      { cls := .urgent, tag := 0#8, payload := (s.exm.opened p level side value place).words }
    else s.port j
  frame : t = { s with exm := t.exm, ports := t.ports }

/-- A record after an exceeding point on its side: the larger level, the larger magnitude as its peak, the earlier peak
staying on equal magnitude, and UNACKED when it reaches level 3 first here (R157, R164). -/
def ExcRecord.after (r : ExcRecord) (level : Nat) (value : Int) (index : Nat) : ExcRecord :=
  { r with
    level := max r.level level,
    peakValue := if r.peakValue.natAbs < value.natAbs then value else r.peakValue,
    peakIndex := if r.peakValue.natAbs < value.natAbs then index else r.peakIndex,
    urgency := if r.level < 3 ∧ level = 3 then .unacked else r.urgency }

/-- From `s` to `t`, the open record `x` of a parameter, which is the record `r` of the list, is extended by a point
(R157, R164, R165). -/
structure RecordExtends (p : Param) (x : OpenGroup) (r : ExcRecord) (level : Nat) (value : Int) (place : PointPlace)
    (s t : State) : Prop where
  exm : t.exm = { s.exm with
    records := s.exm.records.map fun y => if y.id = x.id then r.after level value place.index else y,
    urgent := s.exm.urgent || decide (r.level < 3 ∧ level = 3),
    urgentRecords := if r.level < 3 ∧ level = 3 then min 65535 (s.exm.urgentRecords + 1) else s.exm.urgentRecords,
    groups := s.exm.groups.set p { s.exm.groups.get p with
      current := some { x with lastIndex := place.index, lastChainage := place.chainage }, clean := 0 } }
  told : ∀ j, t.port j = if r.level < 3 ∧ level = 3 then (s.port j).offer
      { cls := .urgent, tag := 0#8, payload := (r.after level value place.index).words }
    else s.port j
  frame : t = { s with exm := t.exm, ports := t.ports }

/-- From `s` to `t`, the open records of every parameter close with a reason at their last exceeding points, in ascending
order of parameter, and each is told to the ports whose level mask holds its level. Nothing else of EXM changes but the
count of closed records (R153, R155, R171). -/
structure OpenRecordsClose (why : CloseReason) (s t : State) : Prop where
  records : t.exm.records = s.exm.records.map fun r => match (s.exm.groups.get r.param).current with
    | some g => if g.id = r.id then { r with closing := some ⟨why, g.lastIndex, g.lastChainage⟩ } else r
    | none => r
  groups : ∀ p, t.exm.groups.get p =
    if (s.exm.groups.get p).current.isSome then { s.exm.groups.get p with current := none, clean := 0 }
    else s.exm.groups.get p
  exm : t.exm = { s.exm with
    records := t.exm.records, groups := t.exm.groups, recordsClosed := t.exm.recordsClosed }
  told : ∀ j, t.port j =
    [Param.gauge, .cant, .levelL, .levelR, .alignL, .alignR, .twist, .curv].foldl (fun q p =>
      match (s.exm.groups.get p).current, s.exm.records.find? (fun r => decide (r.param = p ∧ r.closing = none)) with
      | some g, some r =>
        if q.options.levelMask.getLsbD (r.level - 1) then
          q.offer { cls := .exceedance, tag := 0#8,
                    payload := ({ r with closing := some ⟨why, g.lastIndex, g.lastChainage⟩ } : ExcRecord).words }
        else q
      | _, _ => q) (s.port j)
  frame : t = { s with exm := t.exm, ports := t.ports }

/-! ### Sources and the awaited point (R25, R27, R29, R30, R39, R40, R44, R46, R48 to R53, R59) -/

/-- A queued source is satisfied for a crossing time by its state or by a later sample; MARKER takes no part (R44). -/
def State.Ready (s : State) (c : Source) (t : Nat) : Prop :=
  c = .marker ∨ (s.unit c).state ≠ .live ∨
    (c = .headL ∧ ∃ e ∈ s.intake.queueL, t < e.stamp) ∨
    (c = .headR ∧ ∃ e ∈ s.intake.queueR, t < e.stamp) ∨
    (c = .inertial ∧ ∃ e ∈ s.intake.queueI, t < e.stamp)

/-- An examination forms nothing, whatever becomes of source `c`: the run is IDLE, or no created point waits in RUNNING,
or another source holds up the awaited point, whose deadline is not reached (R46, R57). -/
def State.FormsNothing (s : State) (c : Source) : Prop :=
  s.run.state = .idle ∨ (s.run.state = .running ∧ s.grid.waiting = []) ∨
    ∃ x more, s.grid.waiting = x :: more ∧ (∀ d, s.grid.deadline = some d → s.now < d) ∧
      ∃ d, d ≠ c ∧ ¬s.Ready d x.crossing

/-- A source after a valid frame: LIVE with a new stale deadline, its header correction counted, and the sequence number
tracked (R25, R27, R30). -/
def SourceUnit.received (u : SourceUnit) (corrected : Bool) (deadline seq : Nat) : SourceUnit :=
  { u with
    correctedHeaders := if corrected then min 65535 (u.correctedHeaders + 1) else u.correctedHeaders,
    state := .live, deadline := some deadline,
    missing := match u.prevSeq with
      | some prev => min 65535 (u.missing + (seq + 131072 - prev - 1) % 65536)
      | none => u.missing,
    prevSeq := some seq }

/-- The SOURCE notice of a change to LIVE from the state before, to the ACTIVE ports that ask for it; none from LIVE
(R29, R223). -/
def tellLive (c : Source) (before : SourceState) (s : State) : State :=
  let code : Word := match before with
    | .absent => 0#32
    | .live => 1#32
    | .stale => 2#32
  if before = .live then s
  else offerAll wantsSource .source [wordOfNat c.code, code, 1#32, wordOfNat s.now] s

/-- From a queue in stamp order, the entries older than the lower bracket of a time are gone, and nothing else (R39,
R40). -/
structure TrimmedAt {α : Type} (q r : List (Entry α)) (t : Nat) : Prop where
  later : (∀ e ∈ q, t < e.stamp) → r = q
  bracket : ∀ front a back, q = front ++ a :: back → a.stamp ≤ t → (∀ e ∈ back, t < e.stamp) → r = a :: back

/-- A source read at a time from its queue, channel by channel: interpolated and GOOD between two brackets, each channel
between its two values; held from one bracket, until the hold count exceeds the limit; VOID, with channels 0, without a
value (R48 to R53). -/
structure ReadsAt {α : Type} (channels : List (α → Int)) (zero : α) (q : List (Entry α)) (t count holdLimit : Nat)
    (r : SourceRead α) : Prop where
  empty : q = [] → r = { vals := zero, status := .void, clamp := false }
  between : ∀ front a b back, q = front ++ a :: b :: back → a.stamp ≤ t → t < b.stamp →
    r.status = .good ∧ r.clamp = (a.clamp || b.clamp) ∧
    ∀ f ∈ channels, f r.vals = f a.vals + roundDiv ((f b.vals - f a.vals) * ((t : Int) - a.stamp)) (b.stamp - a.stamp) ∧
      min (f a.vals) (f b.vals) ≤ f r.vals ∧ f r.vals ≤ max (f a.vals) (f b.vals)
  held : ∀ e, ((∃ front, q = front ++ [e]) ∧ e.stamp ≤ t) ∨ ((∃ back, q = e :: back) ∧ t < e.stamp) →
    (min 65535 (count + 1) ≤ holdLimit → r = { vals := e.vals, status := .held, clamp := e.clamp }) ∧
    (holdLimit < min 65535 (count + 1) → r = { vals := zero, status := .void, clamp := false })

/-- GRID's part of a source after the formation of a point at its deadline, from the source's queue and whether it is
LIVE (R52, R59). -/
structure CountedAtDeadline {α : Type} (q : List (Entry α)) (live : Bool) (t holdLimit : Nat) (u v : GridSource) :
    Prop where
  good : (∃ e ∈ q, e.stamp ≤ t) → (∃ e ∈ q, t < e.stamp) →
    v = { u with holdCount := 0 }
  held : (∀ e ∈ q, e.stamp ≤ t) ∨ (∀ e ∈ q, t < e.stamp) →
    let count := min 65535 (u.holdCount + 1)
    let late : Bool := live && decide (∀ e ∈ q, e.stamp ≤ t)
    let deadlinePoints := if late then min 65535 (u.deadlinePoints + 1) else u.deadlinePoints
    (q ≠ [] ∧ count ≤ holdLimit →
      v = { u with holdCount := count, deadlinePoints, heldPoints := min 65535 (u.heldPoints + 1) }) ∧
    (q = [] ∨ holdLimit < count →
      v = { u with holdCount := count, deadlinePoints, voidPoints := min 65535 (u.voidPoints + 1) })

/-! ### The end of a run (R83, R84, R107, R171, R178, R180, R181) -/

/-- From `s`, whose last created point is `w`, to `t`, in which its run has ended: the tail is completed, flagged TAIL
and readable, with the versines that would reach beyond `w` VOID; every record is closed; the run is IDLE with the three
frontiers' work done; the streams above C are gone; every ACTIVE port is told ENDED; and the pending END_RUN is
answered. -/
structure RunEnds (w : Nat) (s t : State) : Prop where
  run : t.run = { s.run with state := .idle, pendingEnd := none }
  created : t.store.w = some w
  completed : t.store.c = some w
  kept : ∀ i x, s.store.point i = some x → ∃ y, t.store.point i = some y ∧ y.crossing = x.crossing ∧
    y.chainage = x.chainage ∧ y.speed = x.speed
  tail : ∀ i y, i ≤ w → w < i + s.run.settings.mMax → t.store.point i = some y → y.tail = true ∧ y.readable = true
  level : ∀ i y, i ≤ w → w < i + s.run.settings.levelHalf → t.store.point i = some y →
    y.values.levelL = 0 ∧ y.statuses.levelL = .void ∧ y.values.levelR = 0 ∧ y.statuses.levelR = .void
  align : ∀ i y, i ≤ w → w < i + s.run.settings.alignHalf → t.store.point i = some y →
    y.values.alignL = 0 ∧ y.statuses.alignL = .void ∧ y.values.alignR = 0 ∧ y.statuses.alignR = .void
  closed : (∀ p, (t.exm.groups.get p).current = none) ∧ (ExmInv s.exm → ∀ r ∈ t.exm.records, r.closing ≠ none)
  grid : t.grid.finished = true ∧ t.grid.waiting = [] ∧ t.grid.deadline = none
  geo : t.geo.tailDone = true
  intake : t.intake.refTime = none ∧ t.intake.units = s.intake.units
  odo : t.odo = { s.odo with window := none }
  frame : t.pos = s.pos ∧ t.svc = s.svc ∧ t.now = s.now ∧ t.cls.sections = s.cls.sections ∧
    t.cls.thresholds = s.cls.thresholds
  streams : ∀ j x, t.stream j = some x → x.cursor ≤ w
  told : ∀ j, (s.port j).state = .active →
    (t.port j).notices.getLast? = some { cls := .run, tag := 0#8, payload :=
      [1#32, s.run.number.setWidth 32, 0#32] ++
      (match s.run.record with
        | some x => [wordOfNat x.direction.code, wordOfNat x.sense.code, wordOfInt x.start]
        | none => [Word.absent, Word.absent, 0#32]) ++
      [wordOfNat w, wordOfNat w, wordOfNat s.now, wordOfNat (s.now / 4294967296)] } ∨
    (16 ≤ (t.port j).notices.length ∧ (t.port j).linkErrors.getLsbD 6 = true)
  answered : ∀ p tag, s.run.pendingEnd = some (p, tag) → (t.port p).inService = none ∧
    (t.port p).replies = fillReserved { kind := .reply, tag, rest :=
      [s.run.number.setWidth 32, wordOfNat w, wordOfNat (min (w + 1) s.run.settings.mMax)] } (s.port p).replies
  others : ∀ j, (∀ tag, s.run.pendingEnd ≠ some (j, tag)) → (t.port j).replies = (s.port j).replies ∧
    (t.port j).inService = (s.port j).inService
  inbox : ∀ j, (t.port j).inbox = (s.port j).inbox

/-! ### The tables (R117, R135, R143) -/

/-- A section entry as the table may hold it (07 section 7.1). -/
structure SectionEntry.Ok (e : SectionEntry) : Prop where
  minId : 1 ≤ e.id
  maxId : e.id ≤ 65535
  range : e.start < e.stop

/-- Two limits of one side rise strictly unless one is disabled (R143). -/
def rises (low high : Nat) : Prop := low ≠ 0 → high ≠ 0 → low < high

/-- The six limits of a parameter as a threshold set may hold them (R143). -/
structure Limits.Ok (l : Limits) : Prop where
  bounded : ∀ x ∈ l.list, x ≤ 32767
  hi12 : rises l.hi1 l.hi2
  hi13 : rises l.hi1 l.hi3
  hi23 : rises l.hi2 l.hi3
  lo12 : rises l.lo1 l.lo2
  lo13 : rises l.lo1 l.lo3
  lo23 : rises l.lo2 l.lo3

/-- The marker table, the section table and the threshold sets (R117, R135, R143). -/
structure TablesInv (s : State) : Prop where
  markerCount : s.pos.markers.length ≤ markerCapacity
  markerOrder : s.pos.markers.Pairwise fun a b => a.1 < b.1
  markerRange : ∀ m ∈ s.pos.markers, inInt32 m.2 = true
  sectionCount : s.cls.sections.length ≤ sectionCapacity
  sectionOrder : s.cls.sections.Pairwise fun a b => a.stop ≤ b.start
  sectionIds : s.cls.sections.Pairwise fun a b => a.id ≠ b.id
  sections : ∀ e ∈ s.cls.sections, e.Ok
  limits : ∀ k p, ((s.cls.thresholds.get k).get p).Ok

/-! ### Settings and channels (R6, R185) -/

/-- Every setting lies in its range, and each channel's remainder lies below its pulses per turn (R185, R6). -/
structure SettingsInv (s : State) : Prop where
  ranges : firstOutside 1 s.run.settings.fields settingRanges = none
  remainder : ∀ c, (s.odo.tach.get c).rem < s.run.settings.ppr c
  quotient : ∀ c, (s.odo.tach.get c).q = s.run.settings.circ c / s.run.settings.ppr c
  residue : ∀ c, (s.odo.tach.get c).r = s.run.settings.circ c % s.run.settings.ppr c

/-! ### Sources and sample queues (R27, R34, R36) -/

/-- A sample queue: at most 32 entries, stamps strictly rising, none later than the source's previous stamp (R36,
R34). -/
structure QueueOk {α : Type} (q : List (Entry α)) (prevStamp : Option Nat) : Prop where
  capacity : q.length ≤ sampleCapacity
  ordered : q.Pairwise fun a b => a.stamp < b.stamp
  tracked : ∀ e ∈ q, ∃ t, prevStamp = some t ∧ e.stamp ≤ t

/-- INTAKE: the three queues, and a stale deadline exactly while a source is LIVE (R27, R36). -/
structure IntakeInv (i : Intake) : Prop where
  queueL : QueueOk i.queueL i.units.headL.prevStamp
  queueR : QueueOk i.queueR i.units.headR.prevStamp
  queueI : QueueOk i.queueI i.units.inertial.prevStamp
  live : ∀ c, (i.units.get c).state = .live ↔ (i.units.get c).deadline.isSome = true

/-! ### The run and its frontiers (R9, R36, R43, R45, R81, R84, R91) -/

/-- C behind F by m_max points, undefined until then (R81). -/
def behind (f : Option Nat) (mMax : Nat) : Option Nat :=
  match f with
  | some k => if k < mMax then none else some (k - mMax)
  | none => none

/-- What exists in a run and not in IDLE, and the frontiers: in a run the waiting points are those after F up to W, and
C stands m_max behind F; in IDLE all three are equal. In RUNNING, W is the last boundary at or below HW (R14, R15). -/
structure RunInv (s : State) : Prop where
  window : s.odo.window.isSome = true ↔ s.run.state ≠ .idle
  refTime : s.intake.refTime.isSome = true ↔ s.run.state ≠ .idle
  record : s.run.state ≠ .idle → s.run.record.isSome = true
  pendingEnd : s.run.pendingEnd.isSome = true → s.run.state = .finishing .forming
  deadline : s.grid.deadline = deadlineOf s.run.settings.alignWaitUs s.grid.waiting
  idle : s.run.state = .idle → s.grid.waiting = [] ∧ s.store.f = s.store.w ∧ s.store.c = s.store.w
  running : s.run.state = .running → 0 ≤ s.odo.highWater ∧ s.odo.runDistance ≤ s.odo.highWater ∧
    s.store.w = some (s.odo.highWater / gridStep).toNat
  forming : s.run.state ≠ .idle → ∃ w, s.store.w = some w ∧ (∀ k, s.store.f = some k → k ≤ w) ∧
    s.store.c = behind s.store.f s.run.settings.mMax ∧
    s.grid.waiting.map (·.index) =
      (List.range (w + 1 - ((s.store.f.map (· + 1)).getD 0))).map (· + ((s.store.f.map (· + 1)).getD 0))

/-! ### Bounded buffers (R8, R66, R67, R71, R74, R90) -/

/-- An integrator within its limits (R66, R67). -/
structure Integrator.Ok (i : Integrator) : Prop where
  slope : i.slope.natAbs ≤ 100000000
  disp : i.disp.natAbs ≤ 4611686018427387904

/-- The distance history, the chord and cant histories, the integrators, and the ring of slots: slot n holds a point
whose index leaves n (R8, R66, R67, R71, R74, R90). -/
structure BuffersInv (s : State) : Prop where
  history : s.odo.history.length ≤ historyCapacity
  chord : s.geo.chord.length ≤ chordCapacity
  cants : s.geo.cants.length ≤ cantCapacity
  vl : s.geo.vl.Ok
  vr : s.geo.vr.Ok
  lat : s.geo.lat.Ok
  ring : s.store.slots.Pairwise fun a b => a.1 < b.1
  slots : ∀ x ∈ s.store.slots, x.1 = slotOf x.2.index

/-- The count within its 48 bits (R2). -/
def TimeInv (s : State) : Prop := s.now ≤ timebaseEnd

/-! ### Statuses (R3) -/

/-- The status reported when several apply: VOID before CLAMPED before HELD before GOOD (R3). -/
def worst (l : List Status) : Status :=
  if .void ∈ l then .void else if .clamped ∈ l then .clamped else if .held ∈ l then .held else .good

/-! ### Service of a request (R203, R211) -/

/-- The oldest request of port `p` is `r`, with `rest` behind it; it is of the kind named, and SVC may take it: no
request of the port is in service, and a reply slot is free. No slot is reserved, as `ServiceInv` says of every port
with no request in service. -/
structure Serves (k : RequestKind) (p : PortId) (r : Request) (rest : List Request) (s : State) : Prop where
  head : (s.port p).inbox = r :: rest
  kind : r.kind = k.code
  idle : (s.port p).inService = none
  room : (s.port p).replies.length < replyCapacity
  unreserved : reservedSlots (s.port p).replies = 0

/-- The part with the oldest request of a port gone and an answer queued behind the port's earlier answers. -/
def State.answered (s : State) (p : PortId) (rest : List Request) (a : Answer) : State :=
  s.setPort p { s.port p with inbox := rest, replies := (s.port p).replies ++ [.frame a] }

/-- The REFUSE of a request (R211). -/
def refusal (r : Request) (why : Reason) (field : Nat) : Answer :=
  { kind := .refuse, tag := r.tag,
    rest := [wordOfNat why.code, wordOfNat field, r.kind.setWidth 32] }

/-- The REPLY to a request; the link error set will stand before `rest`. -/
def answerTo (r : Request) (rest : List Word) : Answer := { kind := .reply, tag := r.tag, rest }

end Sys2Proof.Machine
end

