-- ==== Sys2Proof/Certificates/Slice0/Obligations.lean ====
section
/-!
DEFINITION. The statements about the part, for the provers. Where one gives the whole next state by an equation, every
field that the right side does not name is unchanged: that is its frame.
-/

open Sys2Proof Sys2Proof.Machine

/-! ### Steps, time and reset -/

/-- A step with a command in front carries out that command on the state with the queue's rest. -/
def Obligations.StepRunsFrontCommand : Prop :=
  ∀ (c : Instr) (rest : List Instr) (s : State),
    step { s with pending := c :: rest } = exec c { s with pending := rest }

/-- A step on an empty queue lets one microsecond pass (R2; the model's choice, notes/assumptions/1.md), and changes no
setting and no table. With nothing due at the count, the count rises by one and nothing else changes. With one event due,
its command is carried out at that count, and then the count rises; a SPACING pulse that a validated edge makes due
starts at that count too. In every case the step carries out the commands of the due edges and then those of the other
events in the order of log 5, where the command of an event that is not due changes nothing. At the count 2^48 - 1 the
step is the reset of R2 in place of all this: it answers what RESETN answers, the state of `ResetsGiveTheResetState`. -/
def Obligations.IdleStepCountsOneMicrosecond : Prop :=
  ∀ s : State, s.pending = [] →
    (281474976710655 ≤ s.now → step s = exec .resetn s) ∧
    (s.now < 281474976710655 →
      ∃ t, step s = .next t ∧ t.now = s.now + 1 ∧ t.pending = [] ∧ t.run.settings = s.run.settings ∧
        t.run.number = s.run.number ∧ t.cls.sections = s.cls.sections ∧ t.cls.thresholds = s.cls.thresholds ∧
        t.pos.markers = s.pos.markers ∧
        ((∀ c, ¬s.Due c) → t = { s with now := s.now + 1 }) ∧
        (∀ c, s.Due c → (∀ d, s.Due d → d = c) →
          ∃ u v, exec c s = .next u ∧ exec .spacingPulseStart u = .next v ∧ t = { v with now := s.now + 1 } ∧
            (¬u.Due .spacingPulseStart → v = u) ∧ ((∀ l, c ≠ .tachEdgeValidated l) → v = u)) ∧
        ∀ lines, s.DueEdges lines →
          let others : List Instr :=
            [ .sourceStaleDeadline .headL, .sourceStaleDeadline .headR, .sourceStaleDeadline .inertial,
              .sourceStaleDeadline .marker, .alignDeadline, .presenceDeadline .p0, .presenceDeadline .p1,
              .presenceDeadline .p2, .presenceDeadline .p3, .yieldDeadline, .spacingPulseEnd, .spacingPulseStart ]
          ∃ u, (lines.map Instr.tachEdgeValidated ++ others).foldl carryOut (.next s) = .next u ∧
            t = { u with now := s.now + 1 })

/-- POWER_ON and RESETN, and TIMEBASE_WRAP once the count has reached 2^48 - 1, give one and the same state: every
block at its reset values, the count 0, the filtered levels at the raw levels, no candidate. The model's own choices in
it, which no rule states: before that count TIMEBASE_WRAP changes nothing (log 2), the lines' raw levels stay (log 6),
the sensor receivers' link reports stay (log 7), the waiting commands stay (log 17), the count of free values stays (log
18), and SPACING last changed at 0 (log 20). -/
def Obligations.ResetsGiveTheResetState : Prop :=
  ∀ s : State, ∃ t,
    exec .powerOn s = .next t ∧ exec .resetn s = .next t ∧
    (timebaseEnd ≤ s.now → exec .timebaseWrap s = .next t) ∧
    (s.now < timebaseEnd → exec .timebaseWrap s = .next s) ∧
    t.now = 0 ∧ t.odo = { Odo.reset with lines := t.odo.lines } ∧
    (∀ l, t.odo.lines.get l = { raw := (s.odo.lines.get l).raw, filtered := (s.odo.lines.get l).raw,
                                candidate := none }) ∧
    t.intake = { Intake.reset with units := t.intake.units } ∧
    (∀ c, t.unit c = { SourceUnit.reset with linkUp := (s.unit c).linkUp }) ∧
    t.grid = Grid.reset ∧ t.geo = Geo.reset ∧ t.store = Store.reset ∧ t.pos = Pos.reset ∧ t.cls = Cls.reset ∧
    t.exm = Exm.reset ∧ t.run = Run.reset ∧ (∀ p, t.port p = Port.reset) ∧ t.svc = Svc.reset ∧
    t.freeCount = s.freeCount ∧ t.pending = s.pending

/-- The reset state: the 32 settings in field order (R185), the first values of the counters and states that the spec
names, and every invariant that the steps keep. -/
def Obligations.ResetStateHoldsTheDefaults : Prop :=
  State.reset.run.settings.fields =
    [1024, 1024, 2890000, 2890000, 0, 4, 20, 100, 0, 0, 0, 0, 20, 2000, 8, 143500, 143500, 150000, 20, 20, 12, 10,
      4167, 20000, 10, 3, 2, 400, 0, 500, 4, 1000] ∧
  State.reset.now = 0 ∧ State.reset.run.state = .idle ∧ State.reset.run.number = 0#16 ∧
  State.reset.exm.nextId = 1 ∧ State.reset.exm.urgent = false ∧ State.reset.svc.holder = none ∧
  (∀ p, (State.reset.port p).state = .offline ∧ (State.reset.port p).attn = false) ∧
  PortsInv State.reset ∧ ServiceInv State.reset ∧ ExmInv State.reset.exm ∧ TablesInv State.reset ∧
    SettingsInv State.reset ∧ IntakeInv State.reset.intake ∧ RunInv State.reset ∧ BuffersInv State.reset ∧
    TimeInv State.reset

/-! ### Rounding -/

/-- Rounding goes to the nearest integer, with ties away from zero (R1). -/
def Obligations.RoundingIsToNearestTiesAway : Prop :=
  ∀ (a : Int) (b : Nat), 0 < b →
    2 * (a - roundDiv a b * b).natAbs ≤ b ∧
      (2 * (a - roundDiv a b * b).natAbs = b → a.natAbs < (roundDiv a b * b).natAbs)

/-! ### The frame layer -/

/-- R193: the fields stand in their positions, each from its most significant bit on: kind at 3, 5, 6, 7, 9 to 12, tag
at 13, 14, 15, 17 to 21, length at 22 to 29, sequence at 30 and 31; each check bit makes the ones of its positions even
in number, and bit 0 makes the ones of the whole header even in number. The fields of any header are read from the same
positions. -/
def Obligations.BuiltHeaderHoldsItsFields : Prop :=
  let holds (h : Word) (f : HeaderFields) : Prop :=
    [3, 5, 6, 7, 9, 10, 11, 12].map h.getLsbD = [7, 6, 5, 4, 3, 2, 1, 0].map f.kind.getLsbD ∧
      [13, 14, 15, 17, 18, 19, 20, 21].map h.getLsbD = [7, 6, 5, 4, 3, 2, 1, 0].map f.tag.getLsbD ∧
      [22, 23, 24, 25, 26, 27, 28, 29].map h.getLsbD = [7, 6, 5, 4, 3, 2, 1, 0].map f.length.getLsbD ∧
      [30, 31].map h.getLsbD = [1, 0].map f.seq.getLsbD
  (∀ f : HeaderFields,
    headerFields (buildHeader f) = f ∧ holds (buildHeader f) f ∧
    (∀ j, j < 5 → ((List.range 32).filter fun i => i.testBit j && (buildHeader f).getLsbD i).length % 2 = 0) ∧
    ((List.range 32).filter fun i => (buildHeader f).getLsbD i).length % 2 = 0) ∧
  ∀ h : Word, holds h (headerFields h)

/-- R194: the syndrome is the exclusive-or of the position numbers of the ones, its bit j is 1 when the positions with
bit j hold an odd number of ones, and syndrome and parity give the three outcomes. -/
def Obligations.HeaderCheckFollowsSyndromeAndParity : Prop :=
  ∀ h : Word,
    (∀ j, j < 5 → (syndrome h).testBit j =
      decide (((List.range 32).filter fun i => i.testBit j && h.getLsbD i).length % 2 = 1)) ∧
    syndrome h = (List.range 32).foldl (fun acc i => if h.getLsbD i then acc ^^^ i else acc) 0 ∧
    (let good := ((List.range 32).filter fun i => h.getLsbD i).length % 2 = 0
     (good → syndrome h = 0 → checkHeader h = .clean (headerFields h)) ∧
     (¬good → checkHeader h = .corrected (headerFields (flipBit h (syndrome h)))) ∧
     (good → syndrome h ≠ 0 → checkHeader h = .uncorrectable))

/-- A header as built checks clean; with any one bit inverted it is corrected to the same fields; with any two bits
inverted it is uncorrectable (the note under R194). -/
def Obligations.HeaderCodeCorrectsOneDetectsTwo : Prop :=
  ∀ f : HeaderFields,
    checkHeader (buildHeader f) = .clean f ∧
    (∀ i, i < 32 → checkHeader (flipBit (buildHeader f) i) = .corrected f) ∧
    (∀ i j, i < j → j < 32 → checkHeader (flipBit (flipBit (buildHeader f) i) j) = .uncorrectable)

/-- Every frame that the part builds is received as what it carries; with one header bit inverted it is received so
too, marked as corrected. -/
def Obligations.FramesAreReceivedAsBuilt : Prop :=
  ∀ (kind tag : Byte) (seq : BitVec 2) (payload : List Word), payload.length ≤ 255 →
    receive (frameBytes kind tag seq payload) =
      { corrected := false, result := .ok { kind, tag, seq, payload } } ∧
    ∀ i, i < 32 →
      receive (wordBytes (flipBit
            (buildHeader { kind, tag, length := BitVec.ofNat 8 payload.length, seq }) i) ++
          (frameBytes kind tag seq payload).drop 4) =
        { corrected := true, result := .ok { kind, tag, seq, payload } }

/-- The byte count and the CRC of R195. A frame of another byte count than its length asks for, or of fewer than 4 bytes,
fails that check (R192). The CRC starts at FFFFh and takes the payload bytes in order, each from its most significant bit:
shifted left, and combined with 8005h where bit 15 and the data bit differed. It follows the payload, low byte first,
words being sent low byte first. With the right byte count, a frame whose last two bytes are the CRC carries its payload,
and one whose last two bytes are not fails the CRC check. So does a frame with one bit inverted anywhere in its payload
or its CRC. -/
def Obligations.PayloadBitErrorsFailTheCrc : Prop :=
  let bytesOf (w : Word) : List Byte := [w.extractLsb' 0 8, w.extractLsb' 8 8, w.extractLsb' 16 8, w.extractLsb' 24 8]
  let lowFirst (c : BitVec 16) : List Byte := [c.extractLsb' 0 8, c.extractLsb' 8 8]
  (∀ (kind tag : Byte) (seq : BitVec 2) (payload : List Word) (i j : Nat),
    payload ≠ [] → payload.length ≤ 255 → i < 4 * payload.length + 2 → j < 8 →
    receive ((frameBytes kind tag seq payload).set (4 + i)
        ((frameBytes kind tag seq payload).getD (4 + i) 0#8 ^^^ (1#8 <<< j))) =
      { corrected := false, result := .error .crc }) ∧
  (let next (reg : BitVec 16) (bit : Bool) : BitVec 16 :=
     if reg.getLsbD 15 = bit then reg <<< 1 else (reg <<< 1) ^^^ 0x8005#16
   crc [] = 0xFFFF#16 ∧ ∀ (bytes : List Byte) (b : Byte),
     crc (bytes ++ [b]) = [7, 6, 5, 4, 3, 2, 1, 0].foldl (fun reg i => next reg (b.getLsbD i)) (crc bytes)) ∧
  (∀ (kind tag : Byte) (seq : BitVec 2) (payload : List Word), payload ≠ [] →
    frameBytes kind tag seq payload =
      bytesOf (buildHeader { kind, tag, length := BitVec.ofNat 8 payload.length, seq }) ++ payload.flatMap bytesOf ++
        lowFirst (crc (payload.flatMap bytesOf))) ∧
  (∀ (f : HeaderFields) (body : List Byte),
    body.length ≠ (if f.length = 0#8 then 0 else 4 * f.length.toNat + 2) →
    receive (bytesOf (buildHeader f) ++ body) = { corrected := false, result := .error .byteCount }) ∧
  (∀ bytes : List Byte, bytes.length < 4 → receive bytes = { corrected := false, result := .error .byteCount }) ∧
  ∀ (f : HeaderFields) (body ends : List Byte), f.length ≠ 0#8 → body.length = 4 * f.length.toNat → ends.length = 2 →
    let r := receive (bytesOf (buildHeader f) ++ body ++ ends)
    (ends = lowFirst (crc body) → ∃ payload, payload.flatMap bytesOf = body ∧
      r = { corrected := false, result := .ok { kind := f.kind, tag := f.tag, seq := f.seq, payload } }) ∧
    (ends ≠ lowFirst (crc body) → r = { corrected := false, result := .error .crc })

/-! ### ODO -/

/-- TACH_RAW_CHANGE. Where the line's candidate is not due: the level that the line has changes nothing; a level away from
the filtered level is a candidate stamped now; a return to the filtered level drops it, and counts a glitch of the channel
in RUNNING and FINISHING (R4). Where it is due, the due edges of all lines are taken first, in the order of their stamps,
and then the change, which finds no candidate on the line (log 11, log 12). -/
def Obligations.RawChangesStartAndDropCandidates : Prop :=
  ∀ (l : TachLine) (level : Bool) (s : State),
    let x := s.odo.lines.get l
    let t := s.odo.tach.get (channelOf l)
    (¬s.Due (.tachEdgeValidated l) → x.raw = level → exec (.tachRawChange l level) s = .next s) ∧
    (¬s.Due (.tachEdgeValidated l) → x.raw ≠ level →
      (level ≠ x.filtered → exec (.tachRawChange l level) s = .next { s with odo := { s.odo with
          lines := s.odo.lines.set l { raw := level, filtered := x.filtered, candidate := some s.now } } }) ∧
      (level = x.filtered → s.run.state = .idle → exec (.tachRawChange l level) s = .next { s with odo := { s.odo with
          lines := s.odo.lines.set l { raw := level, filtered := x.filtered, candidate := none } } }) ∧
      (level = x.filtered → s.run.state ≠ .idle → exec (.tachRawChange l level) s = .next { s with odo := { s.odo with
          lines := s.odo.lines.set l { raw := level, filtered := x.filtered, candidate := none },
          tach := s.odo.tach.set (channelOf l) { t with glitches := min 65535 (t.glitches + 1) } } })) ∧
    ∀ lines, s.Due (.tachEdgeValidated l) → s.DueEdges lines →
      ∃ u, (lines.map Instr.tachEdgeValidated).foldl carryOut (.next s) = .next u ∧
        exec (.tachRawChange l level) s = exec (.tachRawChange l level) u ∧ (∀ k, ¬u.Due (.tachEdgeValidated k)) ∧
        u.odo.lines.get l = { raw := x.raw, filtered := !x.filtered, candidate := none }

/-- TACH_EDGE_VALIDATED, for a candidate that has held glitch_us with none earlier: falling edges, edges of cB, edges in
IDLE and edges stamped before the run's acceptance change only the filtered level (R4, R5). -/
def Obligations.EdgesThatAreNoPulses : Prop :=
  ∀ (l : TachLine) (t : Nat) (s : State),
    (s.odo.lines.get l).candidate = some t → t + s.run.settings.glitchUs ≤ s.now →
    noEarlier s.odo.lines t = true →
    ((s.odo.lines.get l).filtered = true ∨ l = .t1B ∨ l = .t2B ∨ s.run.state = .idle ∨
      ∃ r, s.run.record = some r ∧ t < r.t0) →
    exec (.tachEdgeValidated l) s = .next { s with odo := { s.odo with
      lines := s.odo.lines.set l { raw := (s.odo.lines.get l).raw, filtered := !(s.odo.lines.get l).filtered,
                                   candidate := none } } }

/-- TACH_EDGE_VALIDATED for a rising edge of cA in a run. The channel's remainder and distance move by R6, and the window
takes the step: the channel's advance, and backward seen (R5, R6, R9). A channel that is not believed changes nothing
else. The believed channel moves S, its event record, the distance history and HW (R7, R8), and enters or ends BACKTRACK
with an ODOMETRY notice (R20; its HW is that before the event, log 14); the rest of ODO stays. With no new boundary
crossed no other block changes; with exactly one, the next point is created: its crossing time, speed and flags (R15 to
R18), its chainage, slew and rebase (R115, R116), an owed SPACING pulse (R19), and the after-backtrack mark. After all
that the window is tested: at 1 000 000 µm it closes, and the next state is that of `ClosedWindowIsJudged`; below, it
stays open and nothing further happens (R9). -/
def Obligations.PulsesMoveTheirChannel : Prop :=
  ∀ (c : Channel) (stamp : Nat) (s : State) (r : RunRecord) (w : Window),
    let l : TachLine := match c with
      | .t1 => .t1A
      | .t2 => .t2A
    let lB : TachLine := match c with
      | .t1 => .t1B
      | .t2 => .t2B
    let o := s.odo
    let x := o.tach.get c
    let ppr := s.run.settings.ppr c
    let forward : Bool := !(o.lines.get lB).filtered
    let wraps : Bool := if forward then decide (ppr ≤ x.rem + x.r) else decide (x.rem < x.r)
    let rem : Nat := if forward then (if ppr ≤ x.rem + x.r then x.rem + x.r - ppr else x.rem + x.r)
      else (if x.rem < x.r then x.rem + ppr - x.r else x.rem - x.r)
    let survey : Bool := if o.direction = .forward then forward else !forward
    let mag : Int := if wraps then (x.q : Int) + 1 else x.q
    let step : Int := if survey then mag else -mag
    let sNew := o.runDistance + step
    let enters : Prop := step < 0 ∧ o.backtrack = false ∧ sNew < o.highWater - s.run.settings.backtrackMm * 1000
    let ends : Prop := 0 < step ∧ o.backtrack = true ∧ o.highWater < sNew
    (o.lines.get l).candidate = some stamp → (o.lines.get l).filtered = false →
    stamp + s.run.settings.glitchUs ≤ s.now → noEarlier o.lines stamp = true →
    s.run.state ≠ .idle → s.run.record = some r → r.t0 ≤ stamp → o.window = some w →
    ∃ t w', exec (.tachEdgeValidated l) s = .next (windowTest stamp t) ∧ t.odo.window = some w' ∧
      (w'.full = true ↔ 1000000 ≤ w'.advance.t1.natAbs ∨ 1000000 ≤ w'.advance.t2.natAbs) ∧
      (w'.full = false → windowTest stamp t = t) ∧
      w' = { advance := w.advance.set c (w.advance.get c + step), backward := w.backward || !survey } ∧
      t.odo.tach = o.tach.set c { x with rem, dist := x.dist + step } ∧
      t.odo.lines = o.lines.set l { raw := (o.lines.get l).raw, filtered := true, candidate := none } ∧
      (c ≠ o.believed → t = { s with odo :=
        { o with tach := t.odo.tach, window := t.odo.window, lines := t.odo.lines } }) ∧
      (c = o.believed → t.odo.runDistance = sNew ∧ t.odo.eventRec = some (stamp, sNew) ∧
        t.odo.highWater = max o.highWater sNew ∧
        (o.history.length ≤ 2048 → t.odo.history = newest 2048 (o.history ++ [(stamp, sNew)])) ∧
        t.odo = { o with
          tach := t.odo.tach, window := t.odo.window, lines := t.odo.lines, runDistance := sNew,
          eventRec := some (stamp, sNew), highWater := max o.highWater sNew, history := t.odo.history,
          backtrack := t.odo.backtrack, pendingSeam := t.odo.pendingSeam, lastSpeed := t.odo.lastSpeed,
          lastCrossing := t.odo.lastCrossing, spacingOwed := t.odo.spacingOwed } ∧
        (t.odo.backtrack = true ↔ enters ∨ (o.backtrack = true ∧ ¬ends)) ∧
        (s.run.state ≠ .running ∨ step ≤ 0 ∨ (∃ w0 : Nat, s.store.w = some w0 ∧ sNew < (w0 + 1) * 250000) →
          t = { s with odo := t.odo, ports := t.ports } ∧
          (t.odo.pendingSeam = true ↔ o.pendingSeam = true ∨ (ends ∧ s.run.state = .running)) ∧
          t.odo.lastSpeed = o.lastSpeed ∧ t.odo.lastCrossing = o.lastCrossing ∧
          t.odo.spacingOwed = o.spacingOwed ∧
          ∀ j, (((enters ∨ ends) ∧ (s.port j).options.noticeMask.getLsbD 2 = true) →
              t.port j = (s.port j).offer { cls := .odometry, tag := 0#8, payload :=
                [1#32, wordOfNat o.state.code, wordOfNat c.code, if enters then 1#32 else 0#32, wordOfInt sNew,
                  wordOfInt o.highWater] }) ∧
            (¬((enters ∨ ends) ∧ (s.port j).options.noticeMask.getLsbD 2 = true) → t.port j = s.port j)) ∧
        (∀ tp w0 : Nat, s.run.state = .running → s.store.w = some w0 → o.eventRec = some (tp, o.runDistance) →
          o.runDistance < (w0 + 1) * 250000 → (w0 + 1) * 250000 ≤ sNew → sNew < (w0 + 2) * 250000 →
          let k := w0 + 1
          let crossing : Nat :=
            (tp + Int.tdiv (((stamp : Int) - tp) * (k * 250000 - o.runDistance)) (sNew - o.runDistance)).toNat
          let gap := s.pos.target - s.pos.applied
          let slew : Int := s.run.settings.slewMm
          let a : Int := if gap.natAbs ≤ s.run.settings.slewMm then s.pos.target
            else if 0 < gap then s.pos.applied + slew else s.pos.applied - slew
          let exact : Int := s.pos.base + s.pos.sense.sign * k * 250 + a
          let chainage : Int := max (-2147483648) (min 2147483647 exact)
          let marked : Prop := o.pendingSeam = true ∨ ends
          o.lastCrossing ≤ crossing →
          t.store.w = some k ∧ t.odo.lastCrossing = crossing ∧ t.odo.pendingSeam = false ∧
          t.odo.spacingOwed = o.spacingOwed + 1 ∧
          (crossing = o.lastCrossing → t.odo.lastSpeed = o.lastSpeed) ∧
          (o.lastCrossing < crossing → (t.odo.lastSpeed : Int) =
            min 1048575 (roundDiv 250000000 (crossing - o.lastCrossing))) ∧
          (∃ p, t.store.point k = some p ∧ p.crossing = crossing ∧ p.speed = t.odo.lastSpeed ∧
            p.odoState = o.state ∧ (p.slide = true ↔ o.state ≠ .normal) ∧ p.chainage = chainage ∧
            (p.slew = true ↔ a ≠ s.pos.applied) ∧ p.rebase = s.pos.pendingRebase ∧ p.locState = s.pos.state ∧
            (t.grid.waiting = [] → t.store.f = some k ∧ (marked → p.seam = true))) ∧
          (∀ e, t.grid.waiting.getLast? = some e →
            e.index = k ∧ e.crossing = crossing ∧ e.speed = t.odo.lastSpeed ∧ (e.afterBacktrack = true ↔ marked)) ∧
          t.pos = { s.pos with
            applied := a, pendingRebase := false, lastChainage := some chainage,
            chainageLimits := if exact = chainage then s.pos.chainageLimits
              else min 65535 (s.pos.chainageLimits + 1) })) ∧
      t.run.settings = s.run.settings ∧ t.cls.sections = s.cls.sections ∧ t.pos.markers = s.pos.markers ∧
      t.svc = s.svc

/-- The three outcomes of a window that closes (R10 to R13); the pulse that fills it is that of
`PulsesMoveTheirChannel`. A discarded one only counts. An agreeing one counts and, in SLIDE or FAULT at the tenth in a
row, returns to NORMAL with the primary channel believed; S does not move. A disagreeing one counts, takes the state to
SLIDE or, at the fiftieth in a row, to FAULT, which makes the position DOUBTFUL; and where the believed channel is the
smaller, S steps forward by the difference as one event, and the larger is believed. That event creates no point, or up
to five, each with the stamp of the event as its crossing time and the SLIDE flag (R15 to R17).
Every port that asks for them is offered, in this order, the ODOMETRY notice of a change of state, with the fields before
the correction (log 13); the LOCATION notice of the entry into FAULT, stamped with the count (R127, R128, log 28); and
the BACKTRACK notice of a correction beyond HW, which still names the smaller channel (log 25) and HW before its update
(log 14). -/
def Obligations.ClosedWindowIsJudged : Prop :=
  ∀ (stamp : Nat) (s : State) (w : Window), s.odo.window = some w → w.full = true →
    let o := s.odo
    let a1 := w.advance.t1
    let a2 := w.advance.t2
    let discarded := a1 < 0 ∨ a2 < 0 ∨ w.backward = true
    let agrees := ((a1 - a2).natAbs : Int) * 1000 ≤ s.run.settings.slideTol * max a1 a2
    let up (n : Nat) := min 65535 (n + 1)
    let told (cause : Nat) (state : OdoState) (believed : Channel) (back : Bool) (dist : Int) (q : Port) : Port :=
      if q.options.noticeMask.getLsbD 2 then
        q.offer { cls := .odometry, tag := 0#8, payload :=
          [wordOfNat cause, wordOfNat state.code, wordOfNat believed.code, wordOfBool back, wordOfInt dist,
            wordOfInt o.highWater] }
      else q
    let t := windowTest stamp s
    (discarded → t = { s with odo := { o with window := some Window.empty, discarded := up o.discarded } }) ∧
    (¬discarded → agrees →
      let recovers : Bool := decide (o.state ≠ .normal ∧ 10 ≤ up o.agreeRun)
      let believed : Channel := if recovers then (if s.run.settings.primary = 0 then .t1 else .t2) else o.believed
      t = { s with
        odo := { o with
          window := some Window.empty, judged := up o.judged, agreeRun := up o.agreeRun, disagreeRun := 0,
          state := if recovers then .normal else o.state, believed },
        ports := t.ports } ∧
      ∀ j, t.port j =
        if recovers then told 0 .normal believed o.backtrack o.runDistance (s.port j) else s.port j) ∧
    (¬discarded → ¬agrees →
      let smaller : Channel := if a1 < a2 then .t1 else .t2
      let larger : Channel := if a1 < a2 then .t2 else .t1
      let state : OdoState := if o.state = .fault ∨ 50 ≤ up o.disagreeRun then .fault else .slide
      let sNew := o.runDistance + (a1 - a2).natAbs
      let judged : Odo := { o with
        window := some Window.empty, judged := up o.judged, disagreeing := up o.disagreeing,
        disagreeRun := up o.disagreeRun, agreeRun := 0, state, believed := larger }
      let ends : Bool := decide (o.backtrack = true ∧ o.highWater < sNew)
      let toldState (q : Port) : Port :=
        if state ≠ o.state then told 0 state o.believed o.backtrack o.runDistance q else q
      let toldFault (q : Port) : Port :=
        if state = .fault ∧ o.state ≠ .fault ∧ s.pos.state ≠ .doubtful ∧ q.options.noticeMask.getLsbD 0 = true then
          q.offer { cls := .location, tag := 0#8, payload :=
            [ 3#32, 0#32, 2#32, 0xFFFFFFFF#32, 0xFFFFFFFF#32, 0xFFFFFFFF#32, 0#32, wordOfInt s.pos.target,
              wordOfInt s.pos.applied, wordOfNat s.pos.mismatch, wordOfInt o.runDistance, wordOfNat s.now,
              wordOfNat ((s.store.w.map (· + 1)).getD 0) ] }
        else q
      let toldBack (q : Port) : Port := if ends then told 1 state smaller false sNew q else q
      t.pos.state = (if state = .fault ∧ o.state ≠ .fault then .doubtful else s.pos.state) ∧ t.run = s.run ∧
        t.svc = s.svc ∧ t.cls.sections = s.cls.sections ∧ t.pos.markers = s.pos.markers ∧
      (o.believed = larger →
        t = { s with odo := judged, pos := { s.pos with state := t.pos.state }, ports := t.ports } ∧
        ∀ j, t.port j = toldFault (toldState (s.port j))) ∧
      (o.believed = smaller →
        t.odo.runDistance = sNew ∧ t.odo.eventRec = some (stamp, sNew) ∧ t.odo.highWater = max o.highWater sNew ∧
        (o.history.length ≤ 2048 → t.odo.history = newest 2048 (o.history ++ [(stamp, sNew)])) ∧
        t.odo.backtrack = (o.backtrack && !ends) ∧
        t.odo = { judged with
          runDistance := sNew, eventRec := some (stamp, sNew), highWater := max o.highWater sNew,
          history := t.odo.history, backtrack := t.odo.backtrack, pendingSeam := t.odo.pendingSeam,
          lastSpeed := t.odo.lastSpeed, lastCrossing := t.odo.lastCrossing, spacingOwed := t.odo.spacingOwed } ∧
        (s.run.state ≠ .running ∨ (∃ w0 : Nat, s.store.w = some w0 ∧ sNew < (w0 + 1) * 250000) →
          t = { s with odo := t.odo, pos := { s.pos with state := t.pos.state }, ports := t.ports } ∧
          t.odo.pendingSeam = (o.pendingSeam || (ends && decide (s.run.state = .running))) ∧
          t.odo.lastSpeed = o.lastSpeed ∧ t.odo.lastCrossing = o.lastCrossing ∧
          t.odo.spacingOwed = o.spacingOwed ∧ ∀ j, t.port j = toldBack (toldFault (toldState (s.port j)))) ∧
        (∀ w0 : Nat, s.run.state = .running → s.store.w = some w0 → o.runDistance < (w0 + 1) * 250000 →
          (w0 + 1) * 250000 ≤ sNew → sNew < (w0 + 6) * 250000 →
          let last := (sNew / 250000).toNat
          t.store.w = some last ∧ t.odo.spacingOwed = o.spacingOwed + (last - w0) ∧ t.odo.lastCrossing = stamp ∧
          t.odo.pendingSeam = false ∧
          (stamp ≤ o.lastCrossing → t.odo.lastSpeed = o.lastSpeed) ∧
          (o.lastCrossing < stamp →
            (t.odo.lastSpeed : Int) = min 1048575 (roundDiv 250000000 (stamp - o.lastCrossing))) ∧
          (∀ k, w0 < k → k ≤ last → ∃ x, t.store.point k = some x ∧ x.crossing = stamp ∧
            x.speed = t.odo.lastSpeed ∧ x.slide = true ∧ x.odoState = state ∧ x.locState = t.pos.state) ∧
          (∀ e ∈ t.grid.waiting, e ∈ s.grid.waiting ∨
            w0 < e.index ∧ e.index ≤ last ∧ e.crossing = stamp ∧ e.speed = t.odo.lastSpeed) ∧
          ∀ j, (toldBack (toldFault (toldState (s.port j)))).notices <+: (t.port j).notices)))

/-- SPACING_PULSE_START and SPACING_PULSE_END: high for 10 µs, low for at least 10 µs, one owed pulse fewer at each fall
(R19). -/
def Obligations.SpacingPulsesStartAndEnd : Prop :=
  ∀ s : State,
    (s.odo.spacingHigh = false → 0 < s.odo.spacingOwed → s.odo.spacingSince + 10 ≤ s.now →
      exec .spacingPulseStart s = .next { s with odo := { s.odo with spacingHigh := true, spacingSince := s.now } }) ∧
    (s.odo.spacingHigh = true → s.odo.spacingSince + 10 ≤ s.now →
      exec .spacingPulseEnd s = .next { s with odo := { s.odo with
        spacingHigh := false, spacingSince := s.now, spacingOwed := s.odo.spacingOwed - 1 } })

/-! ### INTAKE and POS -/

/-- SENSOR_FRAME_ARRIVAL of a bad frame, of a frame of another link's kind, and of a frame of the wrong length: only the
source's counters change (R25, R26). -/
def Obligations.SensorFramesThatAreDiscarded : Prop :=
  ∀ (c : Source) (bytes : List Byte) (s : State) (k : Bool),
    (s.unit c).linkUp = true →
    let headers (u : SourceUnit) : Nat :=
      if k then min 65535 (u.correctedHeaders + 1) else u.correctedHeaders
    (∀ e, receive bytes = { corrected := k, result := .error e } →
      exec (.sensorFrameArrival c bytes) s = .next (updateUnit c (fun u => { u with
        badFrames := min 65535 (u.badFrames + 1), correctedHeaders := headers u }) s)) ∧
    (∀ f, receive bytes = { corrected := k, result := .ok f } → f.kind ≠ c.frameKind →
      exec (.sensorFrameArrival c bytes) s = .next (updateUnit c (fun u => { u with
        kindMismatches := min 65535 (u.kindMismatches + 1), correctedHeaders := headers u }) s)) ∧
    (∀ f, receive bytes = { corrected := k, result := .ok f } → f.kind = c.frameKind →
      f.payload.length ≠ c.frameWords →
      exec (.sensorFrameArrival c bytes) s = .next (updateUnit c (fun u => { u with
        badFrames := min 65535 (u.badFrames + 1), correctedHeaders := headers u }) s))

/-- SENSOR_FRAME_ARRIVAL of a valid frame, with a clean or a corrected header, of a source in any state: the source is LIVE
with a new stale deadline (log 30), with its SOURCE notice where it was not LIVE, before the sample (log 26), and its
sequence is tracked (R25, R27, R29, R30). A HEAD_SAMPLE with spot valid is stamped; in IDLE it is not queued, and in a run
it joins its queue with the LATE and OVERRUN counts (R31, R34, R36 to R38). An INERTIAL_SAMPLE likewise, its five values
limited, with a clamp mark and a count when one was (R32). Both are stated where no point is formed: no created point
waits in RUNNING, or the awaited one, before its deadline, is held up by another source, or by this one, whose sample is
not later than it (R44, R46). A sample later than the only waiting point, for which the other sources are satisfied, forms
it. In every run state: a HEAD_SAMPLE without a spot and a MARKER_READ of strength 0 are tracked and counted, and nothing
else (R31, R33); and a sample whose stamp does not rise, or would lie before 0, counts as NONMONOTONE and goes no further
(R34). -/
def Obligations.HeadSamplesJoinTheirQueue : Prop :=
  (∀ (left : Bool) (bytes : List Byte) (w1 w2 : Word) (tag : Byte) (q2 : BitVec 2) (k : Bool) (s : State),
    let c : Source := if left then .headL else .headR
    let u := s.unit c
    let q := if left then s.intake.queueL else s.intake.queueR
    let stamp := s.now - s.run.settings.latency c
    let v := u.received k (s.now + s.run.settings.staleMs * 1000) (w1.toNat % 65536)
    receive bytes = { corrected := k, result := .ok { kind := 0x80#8, tag, seq := q2, payload := [w1, w2] } } →
    u.linkUp = true → w1.getLsbD 16 = true → s.run.settings.latency c ≤ s.now → (∀ t, u.prevStamp = some t → t < stamp) →
    (s.run.state = .idle → exec (.sensorFrameArrival c bytes) s = .next
      (tellLive c u.state (updateUnit c (fun _ => { v with prevStamp := some stamp }) s))) ∧
    (∀ ref, s.run.state ≠ .idle → s.intake.refTime = some ref →
      (s.FormsNothing c ∨ ∃ x more, s.grid.waiting = x :: more ∧ (∀ d, s.grid.deadline = some d → s.now < d) ∧
        stamp ≤ x.crossing ∧ ∀ e ∈ q, e.stamp ≤ x.crossing) →
      let full : Bool := decide (32 ≤ q.length)
      let lost : Bool := full && decide (∃ e ∈ q.head?, ref < e.stamp)
      let u' : SourceUnit := { v with
        prevStamp := some stamp,
        late := if stamp ≤ ref then min 65535 (u.late + 1) else u.late,
        overrun := if lost then min 65535 (u.overrun + 1) else u.overrun }
      let e : Entry HeadVals :=
        { stamp, vals := { g := (w2.extractLsb' 0 16).toInt, h := (w2.extractLsb' 16 16).toInt }, clamp := false }
      let q' := (if full then q.tail else q) ++ [e]
      exec (.sensorFrameArrival c bytes) s = .next (tellLive c u.state { s with intake :=
        if left then { s.intake with units := s.intake.units.set c u', queueL := q' }
        else { s.intake with units := s.intake.units.set c u', queueR := q' } }))) ∧
  (∀ (bytes : List Byte) (w1 w2 w3 w4 w5 w6 : Word) (tag : Byte) (q2 : BitVec 2) (k : Bool) (s : State),
    let u := s.unit .inertial
    let q := s.intake.queueI
    let stamp := s.now - s.run.settings.latencyI
    let lim (m x : Int) : Int := max (-m) (min m x)
    let raw : InertialVals := ⟨w2.toInt, w3.toInt, w4.toInt, w5.toInt, w6.toInt⟩
    let vals : InertialVals := ⟨lim 50000 raw.aL, lim 50000 raw.aR, lim 50000 raw.aLat, lim 200000 raw.theta,
      lim 2000000 raw.omega⟩
    let clamp : Bool := decide (vals ≠ raw)
    let v : SourceUnit := { u.received k (s.now + s.run.settings.staleMs * 1000) (w1.toNat % 65536) with
      prevStamp := some stamp,
      clampedSamples := if clamp then min 65535 (u.clampedSamples + 1) else u.clampedSamples }
    receive bytes = { corrected := k,
                      result := .ok { kind := 0x81#8, tag, seq := q2, payload := [w1, w2, w3, w4, w5, w6] } } →
    u.linkUp = true → s.run.settings.latencyI ≤ s.now → (∀ t, u.prevStamp = some t → t < stamp) →
    (s.run.state = .idle → exec (.sensorFrameArrival .inertial bytes) s = .next
      (tellLive .inertial u.state (updateUnit .inertial (fun _ => v) s))) ∧
    (∀ ref, s.run.state ≠ .idle → s.intake.refTime = some ref →
      (s.FormsNothing .inertial ∨ ∃ x more, s.grid.waiting = x :: more ∧ (∀ d, s.grid.deadline = some d → s.now < d) ∧
        stamp ≤ x.crossing ∧ ∀ e ∈ q, e.stamp ≤ x.crossing) →
      let full : Bool := decide (32 ≤ q.length)
      let lost : Bool := full && decide (∃ e ∈ q.head?, ref < e.stamp)
      let u' : SourceUnit := { v with
        late := if stamp ≤ ref then min 65535 (u.late + 1) else u.late,
        overrun := if lost then min 65535 (u.overrun + 1) else u.overrun }
      exec (.sensorFrameArrival .inertial bytes) s = .next (tellLive .inertial u.state { s with intake := { s.intake with
        units := s.intake.units.set .inertial u',
        queueI := (if full then q.tail else q) ++ [{ stamp, vals, clamp }] } }))) ∧
  (∀ (c : Source) (bytes : List Byte) (f : RxFrame) (k : Bool) (x : CreatedPoint) (s : State),
    let stamp := s.now - s.run.settings.latency c
    let newest {α : Type} (q : List (Entry α)) : Option Nat := q.getLast?.map (·.stamp)
    receive bytes = { corrected := k, result := .ok f } → f.kind = c.frameKind → f.payload.length = c.frameWords →
    c ≠ .marker → (c ≠ .inertial → (f.payload.getD 0 0#32).getLsbD 16 = true) →
    (s.unit c).linkUp = true → (s.unit c).state = .live → s.run.state = .running → s.grid.waiting = [x] →
    s.run.settings.latency c ≤ s.now → (∀ t, (s.unit c).prevStamp = some t → t < stamp) → x.crossing < stamp →
    (∀ d, d ≠ c → s.Ready d x.crossing) →
    ∃ t, exec (.sensorFrameArrival c bytes) s = .next t ∧ t.store.f = some x.index ∧ t.grid.waiting = [] ∧
      t.grid.deadline = none ∧ t.intake.refTime = some x.crossing ∧ (t.unit c).state = .live ∧
      (t.unit c).prevStamp = some stamp ∧ (t.unit c).deadline = some (s.now + s.run.settings.staleMs * 1000) ∧
      (c = .headL → newest t.intake.queueL = some stamp) ∧ (c = .headR → newest t.intake.queueR = some stamp) ∧
      (c = .inertial → newest t.intake.queueI = some stamp) ∧ (∀ d, d ≠ c → t.unit d = s.unit d) ∧
      t.odo = s.odo ∧ t.pos = s.pos ∧ t.svc = s.svc) ∧
  (∀ (c : Source) (bytes : List Byte) (w1 : Word) (rest : List Word) (tag : Byte) (q2 : BitVec 2) (k : Bool) (s : State),
    let u := s.unit c
    let tracked := u.received k (s.now + s.run.settings.staleMs * 1000) (w1.toNat % 65536)
    let answers (v : SourceUnit) : Prop :=
      exec (.sensorFrameArrival c bytes) s = .next (tellLive c u.state (updateUnit c (fun _ => v) s))
    let old : Prop := s.now < s.run.settings.latency c ∨
      ∃ t, u.prevStamp = some t ∧ s.now - s.run.settings.latency c ≤ t
    let beyond (w : Word) (m : Int) : Prop := w.toInt < -m ∨ m < w.toInt
    receive bytes = { corrected := k,
                      result := .ok { kind := c.frameKind, tag, seq := q2, payload := w1 :: rest } } →
    u.linkUp = true → (u.state = .live ∨ c = .marker ∨ s.FormsNothing c) →
    (∀ w2, (c = .headL ∨ c = .headR) → rest = [w2] →
      (w1.getLsbD 16 = false → answers { tracked with spotLosses := min 65535 (u.spotLosses + 1) }) ∧
      (w1.getLsbD 16 = true → old → answers { tracked with nonmonotone := min 65535 (u.nonmonotone + 1) })) ∧
    (∀ w2 w3 w4 w5 w6, c = .inertial → rest = [w2, w3, w4, w5, w6] → old →
      let clamp : Prop := beyond w2 50000 ∨ beyond w3 50000 ∨ beyond w4 50000 ∨ beyond w5 200000 ∨ beyond w6 2000000
      (clamp → answers { tracked with nonmonotone := min 65535 (u.nonmonotone + 1),
                                      clampedSamples := min 65535 (u.clampedSamples + 1) }) ∧
      (¬clamp → answers { tracked with nonmonotone := min 65535 (u.nonmonotone + 1) })) ∧
    (∀ w2, c = .marker → rest = [w2] →
      let strength := w1.toNat / 65536 % 256
      (strength = 0 → answers { tracked with weakReads := min 65535 (u.weakReads + 1) }) ∧
      (strength ≠ 0 → old → answers { tracked with nonmonotone := min 65535 (u.nonmonotone + 1) })))

/-- SENSOR_LINK_DOWN, SENSOR_LINK_UP and SOURCE_STALE_DEADLINE: a LIVE source becomes STALE with a SOURCE notice to the
ACTIVE ports that ask for it; a source that is not LIVE keeps its state; link up changes no state of INTAKE but the
receiver's report (R24, R27 to R29). Nothing else happens for MARKER, in IDLE, with no created point waiting in RUNNING,
and where another queued source is not yet satisfied for the awaited point before its deadline; where the other queued
sources are satisfied and one point waits in RUNNING, that point is formed (R44, R46). -/
def Obligations.SourcesGoStale : Prop :=
  ∀ (c : Source) (s : State),
    let u := s.unit c
    let stale (v : SourceUnit) : State :=
      offerAll wantsSource .source [wordOfNat c.code, 1#32, 2#32, wordOfNat s.now]
        (updateUnit c (fun _ => { v with state := .stale, deadline := none }) s)
    let v : SourceUnit := { u with linkUp := false, linkLosses := min 65535 (u.linkLosses + 1) }
    let quiet : Prop := c = .marker ∨ s.FormsNothing c
    exec (.sensorLinkUp c) s = .next (updateUnit c (fun u => { u with linkUp := true }) s) ∧
    (u.state ≠ .live → exec (.sensorLinkDown c) s = .next (updateUnit c (fun _ => v) s)) ∧
    (u.state = .live → quiet → exec (.sensorLinkDown c) s = .next (stale v)) ∧
    (∀ d, u.state = .live → u.deadline = some d → d ≤ s.now → quiet →
      exec (.sourceStaleDeadline c) s = .next (stale u)) ∧
    (∀ (x : CreatedPoint) (i : Instr) (v' : SourceUnit), u.state = .live → c ≠ .marker → s.run.state = .running →
      s.grid.waiting = [x] →
      (∀ d, d ≠ c → s.Ready d x.crossing) →
      (i = .sensorLinkDown c ∧ v' = v ∨
        i = .sourceStaleDeadline c ∧ v' = u ∧ ∃ d, u.deadline = some d ∧ d ≤ s.now) →
      ∃ t, exec i s = .next t ∧ t.unit c = { v' with state := .stale, deadline := none } ∧
        (∀ d, d ≠ c → t.unit d = s.unit d) ∧ t.grid.waiting = [] ∧ t.grid.deadline = none ∧
        t.store.f = some x.index ∧ t.intake.refTime = some x.crossing ∧ t.odo = s.odo ∧ t.pos = s.pos ∧ t.svc = s.svc)

/-- POS's screening of a marker read, in its order: in IDLE, before the run, an ident that the table does not hold, and a
repeat each count, and nothing else changes (R121). Its judgement at run distance `d` of a read that passes: an accepted
fix, a mismatch, a rebase, each with its count and its LOCATION notices, and an offset out of range, in FIXED too, which
changes nothing else and queues none (R122 to R126, R128; the MISMATCH notice at the limit shows FIXED, log 27). A
MARKER_READ frame, with a clean or a corrected header, makes its source LIVE (with its notice first, log 26) and, with no
edge due, gives POS the run distance of R8 at its stamp (R33 to R35); and a due edge, taken before the read or after it,
gives the same run distance (R130, log 29). -/
def Obligations.MarkerReadsMoveThePosition : Prop :=
  (∀ (ident stamp : Nat) (d : Int) (r : RunRecord) (s : State),
    let up (n : Nat) := min 65535 (n + 1)
    let t := takeMarkerRead ident stamp d s
    (s.run.state = .idle → t = { s with pos := { s.pos with idleReads := up s.pos.idleReads } }) ∧
    (s.run.state ≠ .idle → s.run.record = some r →
      (stamp < r.t0 → t = { s with pos := { s.pos with earlyReads := up s.pos.earlyReads } }) ∧
      (r.t0 ≤ stamp → (∀ x ∈ s.pos.markers, x.1 ≠ ident) →
        t = { s with pos := { s.pos with unknownReads := up s.pos.unknownReads } }) ∧
      (∀ d', r.t0 ≤ stamp → (∃ x ∈ s.pos.markers, x.1 = ident) → s.pos.lastFix = some (ident, d') →
        (d - d').natAbs ≤ s.run.settings.captureMm * 1000 →
        t = { s with pos := { s.pos with repeatReads := up s.pos.repeatReads } }))) ∧
  (∀ (ident stamp : Nat) (m d : Int) (r : RunRecord) (s : State),
    s.run.state ≠ .idle → s.run.record = some r → r.t0 ≤ stamp →
    markerChainage ident s.pos.markers = some m →
    (∀ i d', s.pos.lastFix = some (i, d') → i = ident → s.run.settings.captureMm * 1000 < (d - d').natAbs) →
    let c := s.pos.base + s.pos.sense.sign * roundDiv d 1000 + s.pos.target
    let e := m - c
    let up (n : Nat) := min 65535 (n + 1)
    let t := takeMarkerRead ident stamp d s
    let fits (x : Int) : Prop := -2147483648 ≤ x ∧ x ≤ 2147483647
    let lim (x : Int) : Int := max (-2147483648) (min 2147483647 x)
    let told (cause : Nat) (ps : Pos) (q : Port) : Port :=
      if q.options.noticeMask.getLsbD 0 then
        q.offer { cls := .location, tag := 0#8, payload :=
          [ wordOfNat cause, 7#32, wordOfNat ps.state.code, wordOfNat ident, wordOfInt m, wordOfInt (lim c),
            wordOfInt (lim e), wordOfInt ps.target, wordOfInt ps.applied, wordOfNat ps.mismatch, wordOfInt d,
            wordOfNat stamp, wordOfNat ((s.store.w.map (· + 1)).getD 0) ] }
      else q
    t = { s with pos := t.pos, ports := t.ports } ∧
    (s.pos.state = .fixed → e.natAbs ≤ s.run.settings.captureMm → fits (s.pos.target + e) →
      t.pos = { s.pos with target := s.pos.target + e, mismatch := 0, lastFix := some (ident, d),
                           acceptedFixes := up s.pos.acceptedFixes } ∧
      ∀ j, t.port j = told 0 t.pos (s.port j)) ∧
    (s.pos.state = .fixed → e.natAbs ≤ s.run.settings.captureMm → ¬fits (s.pos.target + e) →
      t.pos = { s.pos with outOfRange := up s.pos.outOfRange } ∧ t.ports = s.ports) ∧
    (s.pos.state = .fixed → s.run.settings.captureMm < e.natAbs →
      t.pos = { s.pos with
        mismatch := s.pos.mismatch + 1, mismatches := up s.pos.mismatches,
        state := if s.run.settings.mismatchLimit ≤ s.pos.mismatch + 1 then .doubtful else .fixed } ∧
      ∀ j, t.port j =
        if s.run.settings.mismatchLimit ≤ s.pos.mismatch + 1 then
          told 3 t.pos (told 1 { t.pos with state := .fixed } (s.port j))
        else told 1 t.pos (s.port j)) ∧
    (s.pos.state ≠ .fixed → fits (s.pos.target + e) → fits (s.pos.applied + e) →
      t.pos = { s.pos with
        target := s.pos.target + e, applied := s.pos.applied + e, pendingRebase := true, state := .fixed,
        mismatch := 0, lastFix := some (ident, d), markerRebases := up s.pos.markerRebases } ∧
      ∀ j, t.port j = told 2 t.pos (s.port j)) ∧
    (s.pos.state ≠ .fixed → ¬(fits (s.pos.target + e) ∧ fits (s.pos.applied + e)) →
      t.pos = { s.pos with outOfRange := up s.pos.outOfRange } ∧ t.ports = s.ports)) ∧
  (∀ (bytes : List Byte) (w1 w2 : Word) (tag : Byte) (q2 : BitVec 2) (k : Bool) (s : State),
    let u := s.unit .marker
    let stamp := s.now - s.run.settings.latencyM
    receive bytes = { corrected := k, result := .ok { kind := 0x82#8, tag, seq := q2, payload := [w1, w2] } } →
    u.linkUp = true → w1.toNat / 65536 % 256 ≠ 0 → s.run.settings.latencyM ≤ s.now →
    (∀ t, u.prevStamp = some t → t < stamp) →
    (∀ l, (s.odo.lines.get l).due s.run.settings.glitchUs s.now = false) →
    exec (.sensorFrameArrival .marker bytes) s = .next
      (takeMarkerRead w2.toNat stamp (distanceAt s.odo.history stamp) (tellLive .marker u.state
        (updateUnit .marker (fun _ => {
          u.received k (s.now + s.run.settings.staleMs * 1000) (w1.toNat % 65536) with
          prevStamp := some stamp, passedReads := min 65535 (u.passedReads + 1) }) s)))) ∧
  (∀ (l : TachLine) (stamp : Nat) (s : State), (s.odo.lines.get l).due s.run.settings.glitchUs s.now = true →
    (∀ k, k ≠ l → (s.odo.lines.get k).due s.run.settings.glitchUs s.now = false) →
    ∃ t, exec (.tachEdgeValidated l) s = .next t ∧
      runDistanceAt s stamp = distanceAt t.odo.history stamp ∧ runDistanceAt t stamp = runDistanceAt s stamp)

/-! ### GRID, GEO, STORE and EXM -/

/-- ALIGN_DEADLINE when the count has reached the deadline of the one waiting point. In RUNNING: the point is formed, F and
the reference time move to it, each queue loses its entries before the lower bracket of the crossing time, each source's
hold count and counters follow its brackets, and C follows at m_max points behind (R39, R43, R44, R46, R52, R54, R59,
R81). ODO, POS, the sources and the tables are unchanged. In FINISHING, where it is the last point of the run, its
formation ends the run: the tail, the RUN_END closes, the RUN ENDED notice and the answer to END_RUN (R56, R83, R171,
R180, R181). Where a second point waits behind it, that one becomes the awaited point with its own deadline (log 30), and
waits where a source holds it up before that deadline; else it is formed at once, and as the last one leaves none waiting.
For any number of waiting points: an examination with an unsatisfied source before the deadline changes nothing; else it
is the formation of the awaited point followed by an examination (R43, R44, R45, R46). An examination at the deadline's
own count finds it reached, whatever causes it (log 32). -/
def Obligations.AlignDeadlineFormsThePoint : Prop :=
  (∀ (c : CreatedPoint) (d : Nat) (s : State),
    s.run.state = .running → s.grid.waiting = [c] → s.grid.deadline = some d → d ≤ s.now →
    ∃ t, exec .alignDeadline s = .next t ∧
      let mMax := max s.run.settings.levelHalf s.run.settings.alignHalf
      let trimmed {α : Type} (q r : List (Entry α)) : Prop :=
        q.Pairwise (fun a b => a.stamp < b.stamp) → TrimmedAt q r c.crossing
      let counted {α : Type} (q : List (Entry α)) (x : Source) (u v : GridSource) : Prop :=
        CountedAtDeadline q (decide ((s.unit x).state = .live)) c.crossing s.run.settings.holdLimit u v
      t.store.f = some c.index ∧ t.store.w = s.store.w ∧ t.grid.waiting = [] ∧ t.grid.deadline = none ∧
      t.grid.finished = s.grid.finished ∧ t.intake.refTime = some c.crossing ∧
      trimmed s.intake.queueL t.intake.queueL ∧ trimmed s.intake.queueR t.intake.queueR ∧
      trimmed s.intake.queueI t.intake.queueI ∧
      counted s.intake.queueL .headL s.grid.units.headL t.grid.units.headL ∧
      counted s.intake.queueR .headR s.grid.units.headR t.grid.units.headR ∧
      counted s.intake.queueI .inertial s.grid.units.inertial t.grid.units.inertial ∧
      (∀ r, ReadsAt [InertialVals.aL, InertialVals.aR, InertialVals.aLat, InertialVals.theta, InertialVals.omega]
          ⟨0, 0, 0, 0, 0⟩ s.intake.queueI c.crossing s.grid.units.inertial.holdCount s.run.settings.holdLimit r →
        s.intake.queueI.Pairwise (fun a b => a.stamp < b.stamp) →
        t.grid.clampedPoints = if r.clamp then min 65535 (s.grid.clampedPoints + 1) else s.grid.clampedPoints) ∧
      t.store.c = (if c.index < mMax then s.store.c else some (c.index - mMax)) ∧
      t.odo = s.odo ∧ t.pos = s.pos ∧ t.intake.units = s.intake.units ∧ t.run = s.run ∧
      t.cls.sections = s.cls.sections ∧ t.cls.thresholds = s.cls.thresholds ∧ t.svc = s.svc) ∧
  (∀ (c : CreatedPoint) (d : Nat) (s : State),
    s.run.state = .finishing .forming → s.grid.waiting = [c] → s.grid.deadline = some d → d ≤ s.now →
    s.store.w = some c.index → s.store.f = (if c.index = 0 then none else some (c.index - 1)) →
    s.store.c = behind s.store.f s.run.settings.mMax →
    ∃ t, exec .alignDeadline s = .next t ∧ RunEnds c.index s t ∧ t.store.f = some c.index) ∧
  (∀ (c c' : CreatedPoint) (more : List CreatedPoint) (d : Nat) (s : State),
    s.run.state = .running → s.grid.waiting = c :: c' :: more → s.grid.deadline = some d → d ≤ s.now →
    c.crossing ≤ c'.crossing →
    let d' := c'.crossing + s.run.settings.alignWaitUs
    ∃ t, exec .alignDeadline s = .next t ∧
      (s.now < d' → (∃ x, ¬s.Ready x c'.crossing) →
        t.store.f = some c.index ∧ t.grid.waiting = c' :: more ∧ t.grid.deadline = some d' ∧
          t.intake.refTime = some c.crossing) ∧
      ((d' ≤ s.now ∨ ∀ x, s.Ready x c'.crossing) → more = [] →
        t.store.f = some c'.index ∧ t.grid.waiting = [] ∧ t.grid.deadline = none ∧
          t.intake.refTime = some c'.crossing)) ∧
  (∀ s : State, (∃ d, s.grid.deadline = some d ∧ d ≤ s.now) → exec .alignDeadline s = .next (examine s)) ∧
  (∀ s : State, s.run.state = .running → s.grid.waiting = [] → examine s = s) ∧
  (∀ (c : CreatedPoint) (rest : List CreatedPoint) (s : State), s.run.state ≠ .idle → s.grid.waiting = c :: rest →
    let satisfied : Prop := (∃ d, s.grid.deadline = some d ∧ d ≤ s.now) ∨ ∀ x, s.Ready x c.crossing
    let u := formPoint c rest s
    (¬satisfied → examine s = s) ∧ (satisfied → examine s = examine u) ∧
      u.store.f = some c.index ∧ u.grid.waiting = rest ∧
      u.grid.deadline = rest.head?.map (fun x => x.crossing + s.run.settings.alignWaitUs) ∧
      u.intake.refTime = some c.crossing ∧ u.intake.units = s.intake.units ∧ u.run = s.run ∧ u.now = s.now)

/-- A source at a crossing time, INERTIAL with its five channels and a head with its two, from a queue in stamp order:
interpolated and GOOD between two brackets, each channel between its two values; held from one bracket, until the hold
count exceeds hold_limit; VOID, with channels 0, without a value (R48 to R53). -/
def Obligations.SourceReadFollowsItsBrackets : Prop :=
  (∀ (q : List (Entry InertialVals)) (t count holdLimit : Nat), q.Pairwise (fun a b => a.stamp < b.stamp) →
    ReadsAt [InertialVals.aL, InertialVals.aR, InertialVals.aLat, InertialVals.theta, InertialVals.omega]
      ⟨0, 0, 0, 0, 0⟩ q t count holdLimit (readSource InertialVals.between InertialVals.zero q t count holdLimit)) ∧
  (∀ (q : List (Entry HeadVals)) (t count holdLimit : Nat), q.Pairwise (fun a b => a.stamp < b.stamp) →
    ReadsAt [HeadVals.g, HeadVals.h] ⟨0, 0⟩ q t count holdLimit
      (readSource HeadVals.between HeadVals.zero q t count holdLimit)) ∧
  (∀ (c : CreatedPoint) (s : State),
    let p := rawPointOf c s
    let read {α : Type} (between : α → α → Nat → Nat → Nat → α) (zero : α) (q : List (Entry α)) (u : GridSource) :=
      readSource between zero q c.crossing u.holdCount s.run.settings.holdLimit
    p.index = c.index ∧ p.crossing = c.crossing ∧ p.speed = c.speed ∧ p.afterBacktrack = c.afterBacktrack ∧
      ⟨p.headL, p.statusL, p.clampL⟩ = read HeadVals.between HeadVals.zero s.intake.queueL s.grid.units.headL ∧
      ⟨p.headR, p.statusR, p.clampR⟩ = read HeadVals.between HeadVals.zero s.intake.queueR s.grid.units.headR ∧
      ⟨p.inertial, p.statusI, p.clampI⟩ =
        read InertialVals.between InertialVals.zero s.intake.queueI s.grid.units.inertial)

/-- The low-speed state, the seam and the three integrators at a raw point: 0 at a seam, unchanged at another LOWSPEED
point, else stepped by the acceleration with the leak, slope and displacement limited (R62, R63, R66, R67, R69); the mark
of each integrator (R68), the four space curves (R70), the point's entry in the chord history (R71), its SEAM and LOWSPEED
flags in its slot, and the counters of seams, LOWSPEED entries and integrator limits. -/
def Obligations.IntegratorsFollowTheRawPoint : Prop :=
  ∀ (rp : RawPoint) (s : State),
    let c := s.run.settings
    let g := s.geo
    let low : Bool := match g.low with
      | .outside => decide (rp.speed < c.vMin)
      | .inside => decide (rp.speed < c.vMin + c.vMin / 8)
    let seam : Bool := decide (rp.index = 0 ∨ rp.afterBacktrack = true ∨ (g.low = .inside ∧ low = false))
    let up (n : Nat) := min 65535 (n + 1)
    let t := geoClassify rp s
    t = { s with geo := t.geo, store := { s.store with slots := t.store.slots } } ∧
    (∀ x, s.store.point rp.index = some x → t.store.point rp.index = some { x with seam, lowSpeed := low }) ∧
    (∀ n, n ≠ slotOf rp.index → getSlot n t.store.slots = getSlot n s.store.slots) ∧
    ∃ e : ChordEntry,
      (∀ (i j : Integrator) (a : Int) (mark : IntegMark) (m n : Nat),
        (i, j, a, mark, m, n) ∈
          [ (g.vl, t.geo.vl, rp.inertial.aL, e.markVL, g.clampsVL, t.geo.clampsVL),
            (g.vr, t.geo.vr, rp.inertial.aR, e.markVR, g.clampsVR, t.geo.clampsVR),
            (g.lat, t.geo.lat, rp.inertial.aLat, e.markLat, g.clampsLat, t.geo.clampsLat) ] →
        (seam = true → j = ⟨0, 0⟩ ∧ mark = .clear ∧ n = m) ∧
        (seam = false → low = true → j = i ∧ mark = .clear ∧ n = m) ∧
        (seam = false → low = false →
          let slope := i.slope - Int.tdiv i.slope (2 ^ c.leakShift) +
            roundDiv (a * 250000000000) (rp.speed * rp.speed)
          let disp := i.disp + roundDiv j.slope 4
          let limited : Bool := decide (slope < -100000000 ∨ 100000000 < slope ∨ disp < -4611686018427387904 ∨
            4611686018427387904 < disp)
          j.slope = max (-100000000) (min 100000000 slope) ∧
            j.disp = max (-4611686018427387904) (min 4611686018427387904 disp) ∧
            mark = (if limited || rp.clampI then .clamped else if rp.statusI = .good then .clear else .held) ∧
            n = if limited then up m else m)) ∧
      e = { index := rp.index,
            zL := rp.headL.h * 10000 + t.geo.vl.disp, zR := rp.headR.h * 10000 + t.geo.vr.disp,
            yL := rp.headL.g * 10000 + t.geo.lat.disp, yR := -rp.headR.g * 10000 + t.geo.lat.disp,
            headL := rp.statusL, headR := rp.statusR, inertial := rp.statusI, inertialClamp := rp.clampI,
            markVL := e.markVL, markVR := e.markVR, markLat := e.markLat, seam, lowSpeed := low } ∧
      t.geo = { g with
        low := if low then .inside else .outside,
        vl := t.geo.vl, vr := t.geo.vr, lat := t.geo.lat, chord := newest 161 (g.chord ++ [e]),
        seams := if seam then up g.seams else g.seams,
        lowEntries := if low && decide (g.low = .outside) then up g.lowEntries else g.lowEntries,
        clampsVL := t.geo.clampsVL, clampsVR := t.geo.clampsVR, clampsLat := t.geo.clampsLat }

/-- GAUGE, CANT, TWIST and CURV of a raw point, with their ranges and statuses, in the point's slot; CANT enters the cant
history, and TWIST is the difference to the entry twist_base points before, VOID where there is none (R72 to R75, R79,
R80). A status is the worst of the contributions, and CLAMPED where the value was limited, which is counted for its
parameter (R3, R79). The LEVEL and ALIGN values of the slot, every other slot, and all else of GEO and of the part are as
they were; so are the slots where the point's own slot no longer holds it (R92). -/
def Obligations.RawPointGivesItsParameters : Prop :=
  ∀ (rp : RawPoint) (low : Bool) (s : State),
    let c := s.run.settings
    let gauge : Int := c.headSpan + rp.headL.g + rp.headR.g - c.nominalGauge
    let cant : Int := roundDiv (c.cantBase * rp.inertial.theta) 1000000 + rp.headL.h - rp.headR.h
    let curv : Int := roundDiv (rp.inertial.omega * 1000) rp.speed
    let heads : Prop := rp.statusL ≠ .void ∧ rp.statusR ≠ .void
    let source (st : Status) (clamp : Bool) : Status := if st = .void then .void else if clamp then .clamped else st
    let left := source rp.statusL rp.clampL
    let right := source rp.statusR rp.clampR
    let inertial := source rp.statusI rp.clampI
    let outside (bound v : Int) : Prop := v < -bound - 1 ∨ bound < v
    let within (bound v : Int) (st : Status) : Status := if v < -bound - 1 ∨ bound < v then .clamped else st
    let t := geoPoint rp low s
    let n := s.geo.valueClamps
    let counts (p : Param) (limited : Prop) : Prop :=
      (limited → t.geo.valueClamps.get p = min 65535 (n.get p + 1)) ∧ (¬limited → t.geo.valueClamps.get p = n.get p)
    t = { s with
      geo := { s.geo with cants := t.geo.cants, valueClamps := t.geo.valueClamps },
      store := { s.store with slots := t.store.slots } } ∧
    (∀ i, i ≠ slotOf rp.index → getSlot i t.store.slots = getSlot i s.store.slots) ∧
    (s.store.point rp.index = none → t.store.slots = s.store.slots) ∧
    counts .gauge (heads ∧ outside 32767 gauge) ∧
    counts .cant (heads ∧ rp.statusI ≠ .void ∧ outside 32767 cant) ∧
    counts .curv (low = false ∧ rp.statusI ≠ .void ∧ (curv < -30000 ∨ 30000 < curv)) ∧
    (∀ p ∈ [Param.levelL, .levelR, .alignL, .alignR], t.geo.valueClamps.get p = n.get p) ∧
    ∀ x, s.store.point rp.index = some x →
      ∃ y, t.store.point rp.index = some y ∧ y = { x with values := y.values, statuses := y.statuses } ∧
        (∀ p ∈ [Param.levelL, .levelR, .alignL, .alignR],
          y.values.get p = x.values.get p ∧ y.statuses.get p = x.statuses.get p) ∧
        (heads → y.values.gauge = max (-32768) (min 32767 gauge) ∧
          y.statuses.gauge = within 32767 gauge (worst [left, right])) ∧
        (¬heads → y.values.gauge = 0 ∧ y.statuses.gauge = .void) ∧
        (heads → rp.statusI ≠ .void → y.values.cant = max (-32768) (min 32767 cant) ∧
          y.statuses.cant = within 32767 cant (worst [left, right, inertial])) ∧
        (¬heads ∨ rp.statusI = .void → y.values.cant = 0 ∧ y.statuses.cant = .void) ∧
        (low = false → rp.statusI ≠ .void → y.values.curv = max (-30000) (min 30000 curv) ∧
          y.statuses.curv = if curv < -30000 ∨ 30000 < curv then .clamped else inertial) ∧
        (low = true ∨ rp.statusI = .void → y.values.curv = 0 ∧ y.statuses.curv = .void) ∧
        t.geo.cants = newest 41
          (s.geo.cants ++ [{ index := rp.index, value := y.values.cant, status := y.statuses.cant }]) ∧
        (1 ≤ c.twistBase → (∀ b ∈ s.geo.cants, b.index < rp.index) →
          s.geo.cants.Pairwise (fun a b => a.index < b.index) →
          ((∀ b ∈ t.geo.cants, b.index + c.twistBase ≠ rp.index) →
            y.values.twist = 0 ∧ y.statuses.twist = .void ∧ counts .twist False) ∧
          ∀ b ∈ t.geo.cants, b.index + c.twistBase = rp.index →
            let twist := y.values.cant - b.value
            let void : Prop := y.statuses.cant = .void ∨ b.status = .void
            counts .twist (¬void ∧ outside 32767 twist) ∧
            (void → y.values.twist = 0 ∧ y.statuses.twist = .void) ∧
            (¬void → y.values.twist = max (-32768) (min 32767 twist) ∧
              y.statuses.twist = within 32767 twist (worst [y.statuses.cant, b.status])))

/-- A versine from a chord history in index order that holds the chord's ends and centre: VOID by R77, else the rounded
second difference, limited to its range, with the worst of the statuses of head and INERTIAL at the three points and of
the integrator's marks after the first end, and CLAMPED where it was limited (R3, R76 to R79). A versine whose chord
would begin before point 0 is VOID with value 0 and is not limited (R77), whatever the history holds.
A raw point k is handled whole: it is classified and given its parameters as `IntegratorsFollowTheRawPoint` and
`RawPointGivesItsParameters` say; then the LEVEL versines of point k - level_half and the ALIGN versines of point
k - align_half are written, a limited one counted; and then point k - m_max is completed, where there is one (R61, R76,
R79, R81). The point that GRID forms is handed to that with its raw point, the frontier, the reference time, the trimmed
queues and the next deadline being set first (R39, R43, R45, R54). -/
def Obligations.VersinesFollowTheChord : Prop :=
  (∀ (h : List ChordEntry) (j m : Nat) (v : VersineKind) (a b c : ChordEntry),
    v ∈ levelKinds ++ alignKinds → 1 ≤ m → h.Pairwise (fun x y => x.index < y.index) →
    a ∈ h → b ∈ h → c ∈ h → a.index + m = j → b.index = j → c.index = j + m →
    let head (e : ChordEntry) : Status := if v.left then e.headL else e.headR
    let curve (e : ChordEntry) : Int :=
      if v.vertical then (if v.left then e.zL else e.zR) else (if v.left then e.yL else e.yR)
    let inertial (e : ChordEntry) : Status := if e.inertialClamp then .clamped else e.inertial
    let mark (e : ChordEntry) : Status :=
      match (if v.vertical then (if v.left then e.markVL else e.markVR) else e.markLat) with
      | .clear => .good
      | .held => .held
      | .clamped => .clamped
    let isVoid : Prop :=
      (∃ e ∈ h, a.index ≤ e.index ∧ e.index ≤ c.index ∧ (e.lowSpeed = true ∨ (a.index < e.index ∧ e.seam = true))) ∨
      ∃ e ∈ [a, b, c], head e = .void ∨ e.inertial = .void
    let n := roundDiv (2 * curve b - curve a - curve c) 20000
    let r := versineAt h j m v
    (isVoid → r = { value := 0, status := .void, limited := false }) ∧
    (¬isVoid → r.value = max (-32768) (min 32767 n) ∧ r.status ≠ .void ∧
      (r.limited = true ↔ n < -32768 ∨ 32767 < n) ∧
      r.status = if n < -32768 ∨ 32767 < n then .clamped
        else worst ([a, b, c].map head ++ [a, b, c].map inertial ++
          (h.filter fun e => decide (a.index < e.index ∧ e.index ≤ c.index)).map mark))) ∧
  (∀ (h : List ChordEntry) (j m : Nat) (v : VersineKind), j < m →
    versineAt h j m v = { value := 0, status := .void, limited := false }) ∧
  (∀ (rp : RawPoint) (s : State),
    let c := s.run.settings
    let k := rp.index
    let low : Bool := match s.geo.low with
      | .outside => decide (rp.speed < c.vMin)
      | .inside => decide (rp.speed < c.vMin + c.vMin / 8)
    let versines : List (Param × Nat × VersineKind) :=
      [ (.levelL, c.levelHalf, { param := .levelL, left := true, vertical := true }),
        (.levelR, c.levelHalf, { param := .levelR, left := false, vertical := true }),
        (.alignL, c.alignHalf, { param := .alignL, left := true, vertical := false }),
        (.alignR, c.alignHalf, { param := .alignR, left := false, vertical := false }) ]
    let mMax := max c.levelHalf c.alignHalf
    let a := geoPoint rp low (geoClassify rp s)
    ∃ u, geoRawPoint rp s = (if k < mMax then u else completePoint (k - mMax) u) ∧
      u = { a with
        geo := { a.geo with valueClamps := u.geo.valueClamps }, store := { a.store with slots := u.store.slots } } ∧
      (∀ j, a.store.point j = none → u.store.point j = none) ∧
      (∀ j x, a.store.point j = some x → ∃ y, u.store.point j = some y ∧
        y = { x with values := y.values, statuses := y.statuses } ∧
        (∀ p m v, (p, m, v) ∈ versines →
          let r := versineAt a.geo.chord j m v
          y.values.get p = (if j + m = k then r.value else x.values.get p) ∧
            y.statuses.get p = if j + m = k then r.status else x.statuses.get p) ∧
        ∀ p ∈ [Param.gauge, .cant, .twist, .curv],
          y.values.get p = x.values.get p ∧ y.statuses.get p = x.statuses.get p) ∧
      (∀ p m v, (p, m, v) ∈ versines →
        let n := a.geo.valueClamps.get p
        u.geo.valueClamps.get p =
          if m ≤ k ∧ (versineAt a.geo.chord (k - m) m v).limited = true then min 65535 (n + 1) else n) ∧
      ∀ p ∈ [Param.gauge, .cant, .twist, .curv], u.geo.valueClamps.get p = a.geo.valueClamps.get p) ∧
  (∀ (c : CreatedPoint) (rest : List CreatedPoint) (s : State),
    let trimmed {α : Type} (q r : List (Entry α)) : Prop :=
      q.Pairwise (fun a b => a.stamp < b.stamp) → TrimmedAt q r c.crossing
    ∃ u, formPoint c rest s = geoRawPoint (rawPointOf c s) u ∧
      u = { s with
        grid := { s.grid with
          units := u.grid.units, clampedPoints := u.grid.clampedPoints, waiting := rest,
          deadline := rest.head?.map fun x => x.crossing + s.run.settings.alignWaitUs },
        store := { s.store with f := some c.index },
        intake := { s.intake with
          queueL := u.intake.queueL, queueR := u.intake.queueR, queueI := u.intake.queueI,
          refTime := some c.crossing } } ∧
      trimmed s.intake.queueL u.intake.queueL ∧ trimmed s.intake.queueR u.intake.queueR ∧
      trimmed s.intake.queueI u.intake.queueI)

/-- The completion of a point. C becomes its index, and then the streams of the four ports are tested in turn for frames
to build (R81, R103; the frames are those of `StreamsBeginAndStop`). Where its slot still holds the point, one lookup is
counted; EXM applies the outcome of each parameter in ascending order and counts the point; and the slot holds the same
values and statuses, readable, with the class, section and levels of its classification; every other slot is as it was
(R92, R136, R151, R152). A point that was overwritten is only counted: no lookup, no write to a slot, and every open
record closes with VOID (R92, R153). The lookup gives the section that holds the chainage, else the default class (R136).
An outcome changes nothing without an open record unless it exceeds; it opens, drops, extends, ends at its length,
bridges, ends below, changes side, or ends as SUPPRESSED or VOID (R155 to R163). -/
def Obligations.CompletionMakesThePointReadable : Prop :=
  (∀ (j : Nat) (s : State),
    let up (n : Nat) := min 65535 (n + 1)
    let t := completePoint j s
    ∃ u, t = streamBuild .p3 (streamBuild .p2 (streamBuild .p1 (streamBuild .p0 u))) ∧ u.store.c = some j ∧
      t = { u with store := { u.store with streams := t.store.streams }, ports := t.ports } ∧
      (∀ x, s.store.point j = some x →
        let k := classify s.run.settings.defaultClass s.cls.sections x.chainage
        let limits := s.cls.thresholds.get k.trackClass
        let level (p : Param) : Nat :=
          if k.mask.getLsbD p.code ∨ x.statuses.get p = .void then 0
          else (((limits.get p).judge (x.values.get p)).map (·.1)).getD 0
        let outcome (p : Param) : ParamOutcome :=
          if k.mask.getLsbD p.code then .suppressed
          else if x.statuses.get p = .void then .void
          else match (limits.get p).judge (x.values.get p) with
            | some (l, side) => .exceeds l side
            | none => .within
        let found : Bool := s.cls.sections.any fun e => decide (e.start ≤ x.chainage ∧ x.chainage < e.stop)
        let looked : Cls :=
          if found then { s.cls with inSection := up s.cls.inSection } else { s.cls with defaulted := up s.cls.defaulted }
        let v := [Param.gauge, .cant, .levelL, .levelR, .alignL, .alignR, .twist, .curv].foldl
          (fun a p => applyOutcome p (outcome p) (x.values.get p)
            { index := x.index, chainage := x.chainage, sectionId := k.sectionId } a) { s with cls := looked }
        ∃ h, (∀ p, level p ≤ h) ∧ (h = 0 ∨ ∃ p, level p = h) ∧
          u = { v with
            exm := { v.exm with
              pointsJudged := up s.exm.pointsJudged,
              exceedingPoints := if 1 ≤ h then up s.exm.exceedingPoints else s.exm.exceedingPoints,
              suppressedPoints := if k.mask ≠ 0#8 then up s.exm.suppressedPoints else s.exm.suppressedPoints },
            store := { s.store with c := some j, slots := u.store.slots } } ∧
          u.store.point j = some { x with
            readable := true, trackClass := k.trackClass, sectionId := k.sectionId, highest := h,
            exceeding := decide (1 ≤ h), suppressed := decide (k.mask ≠ 0#8) } ∧
          ∀ n, n ≠ slotOf j → getSlot n u.store.slots = getSlot n s.store.slots) ∧
      (s.store.point j = none → ExmInv s.exm →
        ∃ v, OpenRecordsClose .void s v ∧ u = { v with
          exm := { v.exm with pointsJudged := up s.exm.pointsJudged },
          store := { s.store with c := some j, overwritten := up s.store.overwritten } })) ∧
  (∀ (default : Nat) (l : List SectionEntry) (c : Int), l.Pairwise (fun a b => a.stop ≤ b.start) → default ≤ 7 →
    (∀ e ∈ l, e.start ≤ c → c < e.stop →
      classify default l c = { sectionId := e.id, trackClass := e.trackClass, mask := e.mask.getD 0#8 }) ∧
    ((∀ e ∈ l, c < e.start ∨ e.stop ≤ c) →
      (classify default l c).sectionId = 0 ∧ (classify default l c).trackClass.val = default ∧
        (classify default l c).mask = 0#8)) ∧
  (∀ (p : Param) (o : ParamOutcome) (value : Int) (place : PointPlace) (s : State), ExmInv s.exm →
    let g := s.exm.groups.get p
    let dropped (u : State) : State := { u with exm := { u.exm with dropped := min 65535 (u.exm.dropped + 1) } }
    let t := applyOutcome p o value place s
    (g.current = none → (o = .suppressed ∨ o = .void ∨ o = .within) → t = s) ∧
    (∀ level side, o = .exceeds level side → 1 ≤ level → level ≤ 3 → g.current = none →
      (s.exm.HasPlace → RecordOpens p level side value place s t) ∧ (¬s.exm.HasPlace → t = dropped s)) ∧
    (∀ x, g.current = some x →
      (o = .suppressed → RecordCloses p x .suppressed x.lastIndex x.lastChainage s t) ∧
      (o = .void → RecordCloses p x .void x.lastIndex x.lastChainage s t) ∧
      (o = .within → g.clean + 1 ≤ s.run.settings.gapTol →
        t = { s with exm := { s.exm with groups := s.exm.groups.set p { g with clean := g.clean + 1 } } }) ∧
      (o = .within → s.run.settings.gapTol < g.clean + 1 →
        RecordCloses p x .below x.lastIndex x.lastChainage s t) ∧
      (∀ level side r, o = .exceeds level side → 1 ≤ level → level ≤ 3 → r ∈ s.exm.records → r.id = x.id →
        (x.side = side → ∃ m, RecordExtends p x r level value place s m ∧
          (place.index < r.startIndex + s.run.settings.maxRecordPoints - 1 → t = m) ∧
          (r.startIndex + s.run.settings.maxRecordPoints - 1 ≤ place.index →
            RecordCloses p x .length place.index place.chainage m t)) ∧
        (x.side ≠ side → ∃ m, RecordCloses p x .side x.lastIndex x.lastChainage s m ∧
          (m.exm.HasPlace → RecordOpens p level side value place m t) ∧ (¬m.exm.HasPlace → t = dropped m)))))

/-- Levels and sides: a value's level is the highest of its side whose limit is not 0 and is exceeded (R144). -/
def Obligations.LevelIsTheHighestExceeded : Prop :=
  ∀ (l : Limits) (v : Int),
    let hi (n : Nat) : Nat := [0, l.hi1, l.hi2, l.hi3].getD n 0
    let lo (n : Nat) : Nat := [0, l.lo1, l.lo2, l.lo3].getD n 0
    let high (n : Nat) : Prop := 1 ≤ n ∧ n ≤ 3 ∧ hi n ≠ 0 ∧ (hi n : Int) < v
    let low (n : Nat) : Prop := 1 ≤ n ∧ n ≤ 3 ∧ lo n ≠ 0 ∧ (lo n : Int) < -v
    (∀ n, l.judge v = some (n, .high) ↔ high n ∧ ∀ m, high m → m ≤ n) ∧
    (∀ n, l.judge v = some (n, .low) ↔ low n ∧ ∀ m, low m → m ≤ n) ∧
    (l.judge v = none ↔ (∀ n, ¬high n) ∧ ∀ n, ¬low n) ∧
    ¬((∃ n, high n) ∧ ∃ n, low n)

/-! ### Client ports -/

/-- CLIENT_FRAME_ARRIVAL of a valid frame with its sequence tracked, and a corrected header flagged and counted (R196,
R197). In SILENT and ACTIVE, and in BARRED for kind REJOIN: the port is ACTIVE with a new presence deadline (log 30), and
the frame enters the inbox, or is dropped at a full one with INBOX_FULL and a count (R198 to R200, R203). In BARRED, a
frame of another kind is only counted (R200). -/
def Obligations.ValidClientFramesEnterTheInbox : Prop :=
  ∀ (p : PortId) (bytes : List Byte) (f : RxFrame) (k : Bool) (s : State),
    let q := s.port p
    let up (n : Nat) := min 65535 (n + 1)
    let gap : Bool := decide (∃ prev ∈ q.rxSeq, f.seq ≠ prev + 1)
    let flags := if k then q.linkErrors ||| 0x01#7 else q.linkErrors
    let tracked : Port := { q with
      rxSeq := some f.seq, linkErrors := if gap then flags ||| 0x10#7 else flags,
      correctedHeaders := if k then up q.correctedHeaders else q.correctedHeaders,
      sequenceGaps := if gap then up q.sequenceGaps else q.sequenceGaps }
    let entered : Port := { tracked with
      state := .active, badRun := 0, presenceAt := some (s.now + s.run.settings.presenceMs * 1000) }
    let answers (x : Port) : Prop := exec (.clientFrameArrival p bytes) s = .next (s.setPort p x)
    q.state ≠ .offline → receive bytes = { corrected := k, result := .ok f } →
    (q.state = .barred → f.kind ≠ 0x10#8 → answers { tracked with barredDrops := up q.barredDrops }) ∧
    ((q.state = .barred → f.kind = 0x10#8) →
      (q.inbox.length < 4 →
        answers { entered with inbox := q.inbox ++ [{ kind := f.kind, tag := f.tag, payload := f.payload }] }) ∧
      (4 ≤ q.inbox.length →
        answers { entered with linkErrors := tracked.linkErrors ||| 0x20#7, inboxDrops := up q.inboxDrops }))

/-- CLIENT_FRAME_ARRIVAL of a bad frame: its flag and counter, and in ACTIVE the consecutive count, which bars the port
at bad_frame_limit (R197, R200, R201). The bar is stated for a port that SVC and RUN do not wait for. -/
def Obligations.BadClientFramesCanBarThePort : Prop :=
  ∀ (p : PortId) (bytes : List Byte) (k : Bool) (e : BadCause) (s : State),
    let q := s.port p
    let flag : BitVec 7 := match e with
      | .header => 0x02#7
      | .crc => 0x04#7
      | .byteCount => 0x08#7
    let q' : Port := { q with
      linkErrors := if k then (q.linkErrors ||| 0x01#7) ||| flag else q.linkErrors ||| flag,
      correctedHeaders := if k then min 65535 (q.correctedHeaders + 1) else q.correctedHeaders,
      badFrames := min 65535 (q.badFrames + 1) }
    q.state ≠ .offline → receive bytes = { corrected := k, result := .error e } →
    (q.state ≠ .active → exec (.clientFrameArrival p bytes) s = .next (s.setPort p q')) ∧
    (q.state = .active → q.badRun + 1 < s.run.settings.badFrameLimit →
      exec (.clientFrameArrival p bytes) s = .next (s.setPort p { q' with badRun := q.badRun + 1 })) ∧
    (q.state = .active → s.run.settings.badFrameLimit ≤ q.badRun + 1 →
      s.svc.holder ≠ some p → s.svc.claimant ≠ some p → (∀ tag, s.run.pendingEnd ≠ some (p, tag)) →
      exec (.clientFrameArrival p bytes) s = .next ((setStream p none s).setPort p { q' with
        state := .barred, inbox := [], inService := none, replies := [], notices := [], presenceAt := none,
        badRun := 0, attention := 0#12, attn := false, options := LinkOptions.default,
        bars := min 65535 (q.bars + 1) }))

/-- CLIENT_LINK_DOWN, CLIENT_LINK_UP and PRESENCE_DEADLINE on a port that SVC and RUN do not wait for: link down leaves
the reset values and the counters; link up makes an OFFLINE port SILENT and changes no other; the deadline makes an
ACTIVE port SILENT (R198, R199, R201, R209). -/
def Obligations.LinkReportsAndPresence : Prop :=
  ∀ (p : PortId) (s : State),
    let q := s.port p
    (q.state = .offline → exec (.clientLinkUp p) s = .next (s.setPort p { q with state := .silent })) ∧
    (q.state ≠ .offline → exec (.clientLinkUp p) s = .next s) ∧
    (s.svc.holder ≠ some p → s.svc.claimant ≠ some p → (∀ tag, s.run.pendingEnd ≠ some (p, tag)) →
      (q.Ok (s.stream p) →
        exec (.clientLinkDown p) s = .next ((setStream p none s).setPort p { Port.reset with
          badFrames := q.badFrames, correctedHeaders := q.correctedHeaders, sequenceGaps := q.sequenceGaps,
          inboxDrops := q.inboxDrops, lostNotices := q.lostNotices, presenceTimeouts := q.presenceTimeouts,
          bars := q.bars, barredDrops := q.barredDrops })) ∧
      (∀ d, q.state = .active → q.presenceAt = some d → d ≤ s.now →
        exec (.presenceDeadline p) s = .next ((setStream p none s).setPort p { q with
          state := .silent, inbox := [], inService := none, replies := [], notices := [], presenceAt := none,
          badRun := 0, attention := 0#12, attn := false, options := LinkOptions.default,
          presenceTimeouts := min 65535 (q.presenceTimeouts + 1) })))

/-- A port leaves ACTIVE by CLIENT_LINK_DOWN, at its PRESENCE_DEADLINE, or by the bad frame that bars it. It is left
empty, without its stream, and an END_RUN of it is forgotten. When it held authority with no claim pending, no port holds
and every ACTIVE port is told; with a claim pending, the claimant holds, its CLAIM is granted, and the claim and its
deadline are gone; when it was the claimant, the holder keeps authority; else authority is as it was (R182, R198 to
R201, R220). Link down leaves the port its reset values and its counters. The deadline and the bar keep its link error
set, its sequences and a frame being sent, and each counts itself; the bad frame that bars has first set its flag and
count, and those of a corrected header (R196, R197, R201, R209). -/
def Obligations.PortLossSettlesAuthority : Prop :=
  ∀ (p : PortId) (s : State) (c : Instr) (dest : PortState), ServiceInv s → (s.port p).state = .active →
    (c = .clientLinkDown p ∧ dest = .offline ∨
      (c = .presenceDeadline p ∧ dest = .silent ∧ ∃ d, (s.port p).presenceAt = some d ∧ d ≤ s.now) ∨
      ∃ bytes k why, c = .clientFrameArrival p bytes ∧ dest = .barred ∧
        receive bytes = { corrected := k, result := .error why } ∧
        s.run.settings.badFrameLimit ≤ (s.port p).badRun + 1) →
    ∃ t, exec c s = .next t ∧
      (let q := t.port p
       q.state = dest ∧ q.inbox = [] ∧ q.inService = none ∧ q.replies = [] ∧ q.notices = [] ∧ q.presenceAt = none ∧
         q.badRun = 0 ∧ q.attention = 0#12 ∧ q.attn = false ∧ q.options = LinkOptions.default) ∧
      (let q := s.port p
       let up (n : Nat) := min 65535 (n + 1)
       let emptied : Port := { q with
         state := dest, inbox := [], inService := none, replies := [], notices := [], presenceAt := none,
         badRun := 0, attention := 0#12, attn := false, options := LinkOptions.default }
       (c = .clientLinkDown p → t.port p = { Port.reset with
         badFrames := q.badFrames, correctedHeaders := q.correctedHeaders, sequenceGaps := q.sequenceGaps,
         inboxDrops := q.inboxDrops, lostNotices := q.lostNotices, presenceTimeouts := q.presenceTimeouts,
         bars := q.bars, barredDrops := q.barredDrops }) ∧
       (c = .presenceDeadline p → t.port p = { emptied with presenceTimeouts := up q.presenceTimeouts }) ∧
       ∀ bytes k why, c = .clientFrameArrival p bytes → receive bytes = { corrected := k, result := .error why } →
         let flag : BitVec 7 := match why with
           | .header => 0x02#7
           | .crc => 0x04#7
           | .byteCount => 0x08#7
         t.port p = { emptied with
           linkErrors := (if k then q.linkErrors ||| 0x01#7 else q.linkErrors) ||| flag,
           correctedHeaders := if k then up q.correctedHeaders else q.correctedHeaders,
           badFrames := up q.badFrames, bars := up q.bars }) ∧
      (∀ j, t.stream j = if j = p then none else s.stream j) ∧
      t.store = { s.store with streams := t.store.streams } ∧
      t.run = { s.run with pendingEnd := t.run.pendingEnd } ∧
      ((∃ tag, s.run.pendingEnd = some (p, tag)) → t.run.pendingEnd = none) ∧
      ((∀ tag, s.run.pendingEnd ≠ some (p, tag)) → t.run.pendingEnd = s.run.pendingEnd) ∧
      t = { s with run := t.run, store := t.store, svc := t.svc, ports := t.ports } ∧
      (s.svc.holder = some p → s.svc.claimant = none →
        t.svc = { holder := none, claimant := none, yieldAt := none } ∧
        ∀ j, j ≠ p → (t.port j) = (s.port j).offer
          { cls := .authority, tag := 0#8, payload := [Word.absent, wordOfNat p.code, 4#32] }) ∧
      (∀ q tag, s.svc.holder = some p → s.svc.claimant = some q →
        (s.port q).inService = some (.claim tag) →
        t.svc = { holder := some q, claimant := none, yieldAt := none } ∧
        ∀ j, j ≠ p → t.port j =
          let told := (s.port j).offer
            { cls := .authority, tag := 0#8, payload := [wordOfNat q.code, wordOfNat p.code, 4#32] }
          if j = q then { told with
            inService := none,
            replies := fillReserved { kind := .reply, tag, rest := [wordOfNat q.code] } (s.port q).replies }
          else told) ∧
      (s.svc.claimant = some p →
        t.svc = { holder := s.svc.holder, claimant := none, yieldAt := none } ∧ ∀ j, j ≠ p → t.port j = s.port j) ∧
      (s.svc.holder ≠ some p → s.svc.claimant ≠ some p → t.svc = s.svc ∧ ∀ j, j ≠ p → t.port j = s.port j)

/-- TRANSMIT_FRAME_START and TRANSMIT_FRAME_END: the oldest answer goes before any notice, passing over reserved slots,
with the link error set in its first word, which is then empty; without an answer the oldest notice goes; the transmit
sequence rises (R196, R197, R204, R206). -/
def Obligations.TransmitterTakesAnswersFirst : Prop :=
  ∀ (p : PortId) (s : State),
    let q := s.port p
    exec (.transmitFrameEnd p) s = .next (s.setPort p { q with sending := none }) ∧
    (q.state = .active → q.sending = none → 2000 ≤ s.now →
      (∀ (front back : List ReplySlot) (a : Answer), q.replies = front ++ .frame a :: back →
        reservedSlots front = front.length →
        exec (.transmitFrameStart p) s = .next (s.setPort p { q with
          replies := front ++ back, linkErrors := 0#7, txSeq := q.txSeq + 1,
          sending := some (frameBytes (if a.kind = .reply then 0x40#8 else 0x41#8) a.tag q.txSeq
            (q.linkErrors.setWidth 32 :: a.rest)) })) ∧
      (∀ (n : Notice) (rest : List Notice), reservedSlots q.replies = q.replies.length → q.notices = n :: rest →
        s.stream p = none →
        exec (.transmitFrameStart p) s = .next (s.setPort p { q with
          notices := rest, txSeq := q.txSeq + 1,
          sending := some (frameBytes (BitVec.ofNat 8 (0x60 + n.cls.bit)) n.tag q.txSeq n.payload) })))

/-! ### Authority -/

/-- YIELD_DEADLINE once the count has reached it: the claimant holds, every ACTIVE port is told with cause EXPIRED, and
the CLAIM is granted (R220, R222). -/
def Obligations.YieldDeadlineGrantsTheClaim : Prop :=
  ∀ (q : PortId) (tag : Byte) (d : Nat) (s : State),
    s.svc.claimant = some q → s.svc.yieldAt = some d → d ≤ s.now → (s.port q).inService = some (.claim tag) →
    ∃ t, exec .yieldDeadline s = .next t ∧
      t.svc = { holder := some q, claimant := none, yieldAt := none } ∧
      (let told (j : PortId) : Port := (s.port j).offer
        { cls := .authority, tag := 0#8,
          payload := [wordOfNat q.code, wordOrAbsent (s.svc.holder.map PortId.code), 3#32] }
       (∀ j, j ≠ q → t.port j = told j) ∧
       t.port q = { told q with
         inService := none,
         replies := fillReserved { kind := .reply, tag, rest := [wordOfNat q.code] } (s.port q).replies }) ∧
      t = { s with svc := t.svc, ports := t.ports }

/-- CLAIM in its four situations (R218). A yield deadline above 2^48 - 1 is the model's own (log 30). -/
def Obligations.ClaimFollowsItsSituation : Prop :=
  ∀ (q : PortId) (r : Request) (rest : List Request) (s : State), Serves .claim q r rest s → r.payload = [] →
    (s.svc.holder = some q →
      exec (.claim q) s = .next (s.answered q rest (answerTo r [wordOfNat q.code]))) ∧
    (s.svc.holder = none → ∃ t, exec (.claim q) s = .next t ∧
      t.svc = { holder := some q, claimant := none, yieldAt := none } ∧
      (∀ j, t.port j = (if j = q then { (s.port q).offer
          { cls := .authority, tag := 0#8, payload := [wordOfNat q.code, Word.absent, 0#32] } with
            inbox := rest, replies := (s.port q).replies ++ [.frame (answerTo r [wordOfNat q.code])] }
        else (s.port j).offer
          { cls := .authority, tag := 0#8, payload := [wordOfNat q.code, Word.absent, 0#32] })) ∧
      t = { s with svc := t.svc, ports := t.ports }) ∧
    (∀ p c, s.svc.holder = some p → p ≠ q → s.svc.claimant = some c →
      exec (.claim q) s = .next (s.answered q rest (refusal r .contested 0))) ∧
    (∀ p, s.svc.holder = some p → p ≠ q → s.svc.claimant = none →
      let d := s.now + s.run.settings.yieldMs * 1000
      exec (.claim q) s = .next { s with
        svc := { holder := some p, claimant := some q, yieldAt := some d },
        ports := (s.ports.set p ((s.port p).offer
            { cls := .yieldAsked, tag := 0#8,
              payload := [wordOfNat q.code, wordOfNat s.run.settings.yieldMs, wordOfNat d] })).set q
          { s.port q with inbox := rest, inService := some (.claim r.tag),
                          replies := (s.port q).replies ++ [.reserved] } })

/-- YIELD, KEEP and RELEASE: NOT_HOLDER from another port; NO_CLAIM for YIELD and KEEP without a claim; else authority
passes, stays, or is given up, the claimant is answered, and then the port (R219). -/
def Obligations.YieldKeepAndRelease : Prop :=
  ∀ (p : PortId) (r : Request) (rest : List Request) (s : State), r.payload = [] →
    (∀ k c, (k, c) ∈ [(RequestKind.yield, Instr.yield p), (.keep, .keep p), (.release, .release p)] →
      Serves k p r rest s → s.svc.holder ≠ some p →
      exec c s = .next (s.answered p rest (refusal r .notHolder 0))) ∧
    (∀ k c, (k, c) ∈ [(RequestKind.yield, Instr.yield p), (.keep, .keep p)] →
      Serves k p r rest s → s.svc.holder = some p → s.svc.claimant = none →
      exec c s = .next (s.answered p rest (refusal r .noClaim 0))) ∧
    (∀ q tag k c cause, (k, c, cause) ∈ [(RequestKind.yield, Instr.yield p, 1), (.release, .release p, 2)] →
      Serves k p r rest s → s.svc.holder = some p → s.svc.claimant = some q → q ≠ p →
      (s.port q).inService = some (.claim tag) →
      ∃ t, exec c s = .next t ∧ t.svc = { holder := some q, claimant := none, yieldAt := none } ∧
        (t.port q).inService = none ∧
        (t.port q).replies = fillReserved { kind := .reply, tag, rest := [wordOfNat q.code] } (s.port q).replies ∧
        (t.port p).replies = (s.port p).replies ++ [.frame (answerTo r [wordOfNat q.code])] ∧
        (t.port p).inbox = rest ∧
        (∀ j, (t.port j).notices = ((s.port j).offer
          { cls := .authority, tag := 0#8, payload := [wordOfNat q.code, wordOfNat p.code, wordOfNat cause] }).notices) ∧
        t = { s with svc := t.svc, ports := t.ports }) ∧
    (∀ q tag, Serves .keep p r rest s → s.svc.holder = some p → s.svc.claimant = some q → q ≠ p →
      (s.port q).inService = some (.claim tag) →
      exec (.keep p) s = .next { s with
        svc := { holder := some p, claimant := none, yieldAt := none },
        ports := (s.ports.set q { s.port q with
            inService := none,
            replies := fillReserved { kind := .refuse, tag, rest := [9#32, 0#32, 0x0C#32] } (s.port q).replies }).set p
          { s.port p with inbox := rest,
                          replies := (s.port p).replies ++ [.frame (answerTo r [wordOfNat p.code])] } }) ∧
    (Serves .release p r rest s → s.svc.holder = some p → s.svc.claimant = none →
      ∃ t, exec (.release p) s = .next t ∧ t.svc = { holder := none, claimant := none, yieldAt := none } ∧
        (t.port p).replies = (s.port p).replies ++ [.frame (answerTo r [Word.absent])] ∧ (t.port p).inbox = rest ∧
        (∀ j, (t.port j).notices = ((s.port j).offer
          { cls := .authority, tag := 0#8, payload := [Word.absent, wordOfNat p.code, 2#32] }).notices) ∧
        t = { s with svc := t.svc, ports := t.ports })

/-! ### Requests that any port may send -/

/-- PRESENCE releases its reservation without an answer; ECHO returns as much of its payload as max_reply_words lets it;
REJOIN in ACTIVE is answered with the link error set alone (R204, R212). -/
def Obligations.PresenceEchoAndRejoin : Prop :=
  ∀ (p : PortId) (r : Request) (rest : List Request) (s : State),
    (Serves .presence p r rest s → exec (.presence p) s = .next (s.setPort p { s.port p with inbox := rest })) ∧
    (Serves .echo p r rest s → exec (.echo p) s = .next (s.answered p rest
      (answerTo r (r.payload.take (min r.payload.length ((s.port p).options.maxReplyWords - 1)))))) ∧
    (Serves .rejoin p r rest s → r.payload = [] →
      exec (.rejoin p) s = .next (s.answered p rest (answerTo r [])))

/-- IDENTIFY's seven words, the link error set before the six here (R213). -/
def Obligations.IdentifyReportsThePart : Prop :=
  ∀ (p : PortId) (r : Request) (rest : List Request) (s : State), Serves .identify p r rest s → r.payload = [] →
    exec (.identify p) s = .next (s.answered p rest (answerTo r
      [ 0x4402#32, 1#32, wordOfNat p.code,
        match s.run.state with
        | .idle => 0#32
        | .running => 1#32
        | .finishing _ => 2#32,
        s.run.number.setWidth 32,
        match s.svc.holder with
        | some h => wordOfNat h.code
        | none => 0xFFFFFFFF#32 ]))

/-- SET_LINK: the first field out of its range is refused by number; else all four options are replaced, and the reply
carries them; a change of max_reply_words then tests the port's stream for frames to build, as `StreamsBeginAndStop` says
(R103, R214). -/
def Obligations.SetLinkReplacesTheOptions : Prop :=
  ∀ (p : PortId) (r : Request) (rest : List Request) (w1 w2 w3 w4 : Word) (s : State),
    Serves .setLink p r rest s → r.payload = [w1, w2, w3, w4] →
    let ok1 := 12 ≤ w1.toNat ∧ w1.toNat ≤ 255
    (¬ok1 → exec (.setLink p) s = .next (s.answered p rest (refusal r .range 1))) ∧
    (ok1 → 8 ≤ w2.toNat → exec (.setLink p) s = .next (s.answered p rest (refusal r .range 2))) ∧
    (ok1 → w2.toNat < 8 → 8 ≤ w3.toNat →
      exec (.setLink p) s = .next (s.answered p rest (refusal r .range 3))) ∧
    (ok1 → w2.toNat < 8 → w3.toNat < 8 → 4096 ≤ w4.toNat →
      exec (.setLink p) s = .next (s.answered p rest (refusal r .range 4))) ∧
    (ok1 → w2.toNat < 8 → w3.toNat < 8 → w4.toNat < 4096 →
      let u := s.setPort p { s.port p with
        inbox := rest, replies := (s.port p).replies ++ [.frame (answerTo r [w1, w2, w3, w4])],
        options := { maxReplyWords := w1.toNat, noticeMask := w2.setWidth 3, levelMask := w3.setWidth 3,
                     attentionMask := w4.setWidth 12 } }
      (s.stream p = none ∨ w1.toNat = (s.port p).options.maxReplyWords → exec (.setLink p) s = .next u) ∧
      (w1.toNat ≠ (s.port p).options.maxReplyWords → exec (.setLink p) s = .next (streamBuild p u)))

/-- READ_STATUS: a group above 6 is refused; else the reply is the group, the attention set, the number of item words and
the items of the part with the request taken, cut short at max_reply_words, and the port's attention set is emptied with
ATTN. The items of every group are spelled out (R22, R41, R59, R88, R112, R133, R149, R173, R189, R208, R215; where
those rules leave an order open it is the model's, log 16). The satisfied set of group 3 with no awaited point is a free
value (log 15). -/
def Obligations.ReadStatusReportsAndEmptiesAttention : Prop :=
  ∀ (p : PortId) (r : Request) (rest : List Request) (w : Word) (s : State),
    Serves .readStatus p r rest s → r.payload = [w] →
    let u := s.setPort p ((s.port p).taken rest)
    let items := statusItems w.toNat p u
    let absent := Word.absent
    let words (o : Option Nat) : Word := (o.map wordOfNat).getD absent
    let long (x : Int) : List Word := [wordOfInt x, wordOfInt (x / 4294967296)]
    (6 < w.toNat → exec (.readStatus p) s = .next (s.answered p rest (refusal r .range 1))) ∧
    (w.toNat ≤ 6 → exec (.readStatus p) s = .next { s with
      ports := s.ports.set p { s.port p with
        inbox := rest, attention := 0#12, attn := false,
        replies := (s.port p).replies ++ [.frame (answerTo r
          (([w, (s.port p).attention.setWidth 32, wordOfNat items.length] ++ items).take
            ((s.port p).options.maxReplyWords - 1)))] },
      freeCount := if w.toNat = 3 ∧ s.grid.waiting = [] then s.freeCount + 1 else s.freeCount }) ∧
    (w.toNat = 0 → items =
      [ match s.run.state with
        | .idle => 0#32
        | .running => 1#32
        | .finishing _ => 2#32,
        match s.run.state with
        | .finishing .forming => 0#32
        | .finishing .tailing => 1#32
        | .finishing .closing => 2#32
        | _ => absent,
        s.run.number.setWidth 32 ] ++
      (match s.run.record with
        | some x => [wordOfNat x.direction.code, wordOfNat x.sense.code, wordOfInt x.start, wordOfNat x.t0,
            wordOfNat (x.t0 / 4294967296)]
        | none => [absent, absent, absent, absent, absent]) ++
      [words (s.run.pendingEnd.map (·.1.code)), wordOfNat s.run.loadCount] ++
      [PortId.p0, .p1, .p2, .p3].flatMap fun j =>
        let q := s.port j
        [ match q.state with
          | .offline => 0#32
          | .silent => 1#32
          | .active => 2#32
          | .barred => 3#32,
          wordOfNat (if j = p then rest.length else q.inbox.length),
          wordOfNat (if j = p then q.replies.length + 1 else q.replies.length), wordOfNat q.notices.length,
          wordOfNat q.badFrames, wordOfNat q.correctedHeaders, wordOfNat q.sequenceGaps, wordOfNat q.inboxDrops,
          wordOfNat q.lostNotices, wordOfNat q.presenceTimeouts, wordOfNat q.bars, wordOfNat q.barredDrops ]) ∧
    (w.toNat = 1 → items =
      [wordOfNat s.odo.state.code, wordOfNat s.odo.believed.code, wordOfBool s.odo.backtrack] ++
      long s.odo.runDistance ++ long s.odo.highWater ++ long s.odo.tach.t1.dist ++ long s.odo.tach.t2.dist ++
      [ wordOfNat s.odo.lastSpeed, wordOfNat s.odo.tach.t1.glitches, wordOfNat s.odo.tach.t2.glitches,
        wordOfNat s.odo.judged, wordOfNat s.odo.discarded, wordOfNat s.odo.disagreeing, wordOfNat s.odo.agreeRun,
        wordOfNat s.odo.disagreeRun ]) ∧
    (w.toNat = 2 → items =
      let common (x : SourceUnit) : List Word :=
        [ wordOfNat x.badFrames, wordOfNat x.correctedHeaders, wordOfNat x.kindMismatches, wordOfNat x.linkLosses,
          wordOfNat x.missing, wordOfNat x.nonmonotone ]
      let state (x : SourceUnit) : Word := match x.state with
        | .absent => 0#32
        | .live => 1#32
        | .stale => 2#32
      let newest (o : Option Nat) : List Word := match o with
        | some n => [wordOfNat n, wordOfNat (n / 4294967296)]
        | none => [absent, absent]
      let head (x : SourceUnit) (q : List (Entry HeadVals)) : List Word :=
        [state x, wordOfNat q.length] ++ newest (q.getLast?.map (·.stamp)) ++ common x ++
          [wordOfNat x.spotLosses, wordOfNat x.overrun, wordOfNat x.late]
      let i := s.intake.units.inertial
      let m := s.intake.units.marker
      head s.intake.units.headL s.intake.queueL ++ head s.intake.units.headR s.intake.queueR ++
      [state i, wordOfNat s.intake.queueI.length] ++ newest (s.intake.queueI.getLast?.map (·.stamp)) ++ common i ++
      [wordOfNat i.clampedSamples, wordOfNat i.overrun, wordOfNat i.late] ++
      [state m] ++ common m ++ [wordOfNat m.weakReads, wordOfNat m.passedReads]) ∧
    (w.toNat = 3 → ∃ satisfied : Word,
      (∀ c more, s.grid.waiting = c :: more →
        let due : Prop := ∃ d, s.grid.deadline = some d ∧ d ≤ s.now
        satisfied.toNat < 8 ∧
        (satisfied.getLsbD 0 = true ↔ (∃ e ∈ s.intake.queueL, c.crossing < e.stamp) ∨
          (s.unit .headL).state ≠ .live ∨ due) ∧
        (satisfied.getLsbD 1 = true ↔ (∃ e ∈ s.intake.queueR, c.crossing < e.stamp) ∨
          (s.unit .headR).state ≠ .live ∨ due) ∧
        (satisfied.getLsbD 2 = true ↔ (∃ e ∈ s.intake.queueI, c.crossing < e.stamp) ∨
          (s.unit .inertial).state ≠ .live ∨ due)) ∧
      let three (f : GridSource → Nat) : List Word :=
        [wordOfNat (f s.grid.units.headL), wordOfNat (f s.grid.units.headR), wordOfNat (f s.grid.units.inertial)]
      let integrator (x : Integrator) : List Word := wordOfInt x.slope :: long x.disp
      let clamps := s.geo.valueClamps
      items =
        [words s.store.f, words (s.grid.waiting.head?.map (·.index)), satisfied] ++ three (·.holdCount) ++
        three (·.heldPoints) ++ three (·.voidPoints) ++ three (·.deadlinePoints) ++
        [wordOfNat s.grid.clampedPoints, if s.geo.low = .inside then 1#32 else 0#32] ++
        integrator s.geo.vl ++ integrator s.geo.vr ++ integrator s.geo.lat ++
        [ wordOfBool s.geo.tailDone, wordOfNat s.geo.seams, wordOfNat s.geo.lowEntries, wordOfNat s.geo.clampsVL,
          wordOfNat s.geo.clampsVR, wordOfNat s.geo.clampsLat, wordOfNat clamps.gauge, wordOfNat clamps.cant,
          wordOfNat clamps.levelL, wordOfNat clamps.levelR, wordOfNat clamps.alignL, wordOfNat clamps.alignR,
          wordOfNat clamps.twist, wordOfNat clamps.curv ]) ∧
    (w.toNat = 4 → items =
      [words s.store.w, words s.store.c, words (s.store.w.map (· - 4095)), wordOfNat s.store.overwritten] ++
      (match s.stream p with
        | some x => [1#32, wordOfNat x.cursor, words x.remaining, x.tag.setWidth 32, wordOfNat x.delivered,
            wordOfNat x.lost]
        | none => [0#32, absent, absent, absent, absent, absent]) ++
      [ wordOfNat s.cls.sections.length, wordOfNat s.cls.editCount, wordOfNat s.cls.loads, wordOfNat s.cls.inSection,
        wordOfNat s.cls.defaulted,
        match s.run.state, s.pos.lastChainage with
        | .running, some c =>
          wordOfInt (max (-2147483648) (min 2147483647 (c + s.pos.sense.sign * 200000)))
        | _, _ => absent ]) ∧
    (w.toNat = 5 → items =
      [ match s.pos.state with
        | .unfixed => 0#32
        | .fixed => 1#32
        | .doubtful => 2#32,
        wordOfInt s.pos.base, wordOfNat s.pos.sense.code, wordOfInt s.pos.applied, wordOfInt s.pos.target,
        wordOfNat s.pos.mismatch, wordOfBool s.pos.pendingRebase ] ++
      (match s.pos.lastFix with
        | some (i, d) => [1#32, wordOfNat i] ++ long d
        | none => [0#32, absent, absent, absent]) ++
      [ match s.pos.lastChainage with
        | some c => wordOfInt c
        | none => absent,
        wordOfNat s.pos.markers.length, wordOfNat s.pos.acceptedFixes, wordOfNat s.pos.mismatches,
        wordOfNat s.pos.markerRebases, wordOfNat s.pos.manualFixes, wordOfNat s.pos.idleReads,
        wordOfNat s.pos.earlyReads, wordOfNat s.pos.unknownReads, wordOfNat s.pos.repeatReads,
        wordOfNat s.pos.outOfRange, wordOfNat s.pos.chainageLimits ]) ∧
    (w.toNat = 6 →
      let opened (q : Param) : Bool := (s.exm.groups.get q).current.isSome
      ∃ mask : Word, (∀ q : Param, mask.getLsbD q.code = opened q) ∧ mask.toNat < 256 ∧
        items =
        [ wordOfNat s.exm.records.length,
          wordOfNat ([Param.gauge, .cant, .levelL, .levelR, .alignL, .alignR, .twist, .curv].countP opened), mask,
          wordOfNat (s.exm.records.countP fun x => decide (x.urgency = .unacked)), wordOfNat s.exm.nextId,
          wordOfNat s.exm.pointsJudged, wordOfNat s.exm.exceedingPoints, wordOfNat s.exm.suppressedPoints,
          wordOfNat s.exm.recordsOpened, wordOfNat s.exm.recordsClosed, wordOfNat s.exm.evicted,
          wordOfNat s.exm.dropped, wordOfNat s.exm.urgentRecords, wordOfNat s.exm.acknowledgements ])

/-- READ_TABLE of the settings, the threshold sets, the sections and the markers, and its refusals (R147, R148, R188,
R216); the words of a section entry, its label characters four to a word and its unused bytes 0 (R147); and the 24 words
of a threshold set, limit 6p + 3s + l - 1 in the half that R145 gives it. -/
def Obligations.ReadTableReturnsTheTable : Prop :=
  (∀ (p : PortId) (r : Request) (rest : List Request) (w a : Word) (s : State),
    Serves .readTable p r rest s → r.payload = [w, a] →
    let room := (s.port p).options.maxReplyWords
    let paged (entries : List (List Word)) (n : Nat) : List Word :=
      [ wordOfNat entries.length,
        if a.toNat + n < entries.length then wordOfNat (a.toNat + n) else 0xFFFFFFFF#32 ] ++
        ((entries.drop a.toNat).take n).flatten
    (w = 0#32 → exec (.readTable p) s = .next (s.answered p rest
      (answerTo r ((s.run.settings.fields.map wordOfNat).take (room - 1))))) ∧
    (w = 1#32 → 7 < a.toNat → exec (.readTable p) s = .next (s.answered p rest (refusal r .range 2))) ∧
    (w = 1#32 → a.toNat ≤ 7 → exec (.readTable p) s = .next (s.answered p rest
      (answerTo r ((a :: thresholdWords (s.cls.thresholds.get (Fin.ofNat 8 a.toNat))).take (room - 1))))) ∧
    (w = 2#32 → ∃ n, exec (.readTable p) s = .next (s.answered p rest
        (answerTo r (paged (s.cls.sections.map SectionEntry.words) n))) ∧
      ((s.cls.sections.map SectionEntry.words).drop a.toNat |>.take n).flatten.length ≤ room - 3 ∧
      (a.toNat + n < s.cls.sections.length →
        room - 3 < ((s.cls.sections.map SectionEntry.words).drop a.toNat |>.take (n + 1)).flatten.length)) ∧
    (w = 3#32 → exec (.readTable p) s = .next (s.answered p rest
      (answerTo r (paged (s.pos.markers.map fun m => [wordOfNat m.1, wordOfInt m.2])
        (min (s.pos.markers.length - a.toNat) ((room - 3) / 2)))))) ∧
    (3 < w.toNat → exec (.readTable p) s = .next (s.answered p rest (refusal r .range 1)))) ∧
  (∀ e : SectionEntry,
    let w (i : Nat) : Word := e.words.getD i 0#32
    let label := e.label.getD []
    e.words.length = 5 + (label.length + 3) / 4 ∧ w 0 = BitVec.ofNat 32 e.id ∧ w 1 = BitVec.ofInt 32 e.start ∧
      w 2 = BitVec.ofInt 32 e.stop ∧ (w 3).extractLsb' 0 16 = BitVec.ofNat 16 e.trackClass.val ∧
      (w 3).extractLsb' 16 16 = (match e.label with
        | some l => BitVec.ofNat 16 l.length
        | none => 0xFFFF#16) ∧
      w 4 = (match e.mask with
        | some m => m.setWidth 32
        | none => 0xFFFFFFFF#32) ∧
      ∀ i, i < 4 * ((label.length + 3) / 4) → (w (5 + i / 4)).extractLsb' (8 * (i % 4)) 8 = label.getD i 0#8) ∧
  (∀ t : PerParam Limits, (thresholdWords t).length = 24 ∧
    ∀ (n : Nat) (p : Param), (n, p) ∈
        [(0, Param.gauge), (1, .cant), (2, .levelL), (3, .levelR), (4, .alignL), (5, .alignR), (6, .twist), (7, .curv)] →
      let l := t.get p
      let limits := [l.hi1, l.hi2, l.hi3, l.lo1, l.lo2, l.lo3]
      ∀ j, j < 6 → ((thresholdWords t).getD ((6 * n + j) / 2) 0#32).extractLsb' (16 * ((6 * n + j) % 2)) 16 =
        BitVec.ofNat 16 (limits.getD j 0))

/-- READ_POINTS: its refusals in their order, and the points of its reply (R97, R98); and the ten words of a point record,
field by field (05 section 5.2). -/
def Obligations.ReadPointsReturnsTheWindow : Prop :=
  (∀ (p : PortId) (r : Request) (rest : List Request) (a b : Word) (s : State),
    Serves .readPoints p r rest s → r.payload = [a, b] →
    let first := a.toNat
    let last := b.toNat
    (last < first → exec (.readPoints p) s = .next (s.answered p rest (refusal r .range 2))) ∧
    (first ≤ last → s.store.c = none →
      exec (.readPoints p) s = .next (s.answered p rest (refusal r .notReady 0))) ∧
    (∀ c w, s.store.c = some c → s.store.w = some w → first ≤ last →
      (first < w - 4095 → exec (.readPoints p) s = .next (s.answered p rest (refusal r .expired 0))) ∧
      (w - 4095 ≤ first → c < first →
        exec (.readPoints p) s = .next (s.answered p rest (refusal r .notReady 0))) ∧
      (w - 4095 ≤ first → first ≤ c →
        let n := min (last - first + 1) (min (c - first + 1) (((s.port p).options.maxReplyWords - 2) / 10))
        exec (.readPoints p) s = .next (s.answered p rest (answerTo r
          ((if first + n ≤ last then wordOfNat (first + n) else 0xFFFFFFFF#32) ::
            (List.range n).flatMap fun i => ((s.store.point (first + i)).map PointRec.words).getD [])))))) ∧
  (∀ x : PointRec,
    let w (i : Nat) : Word := x.words.getD i 0#32
    let low (i : Nat) (v : Int) : Prop := (w i).extractLsb' 0 16 = BitVec.ofInt 16 v
    let high (i : Nat) (v : Int) : Prop := (w i).extractLsb' 16 16 = BitVec.ofInt 16 v
    x.words.length = 10 ∧ w 0 = BitVec.ofNat 32 x.index ∧ w 1 = BitVec.ofInt 32 x.chainage ∧
      w 2 = BitVec.ofNat 32 x.crossing ∧ (w 3).extractLsb' 0 16 = BitVec.ofNat 16 (x.crossing / 4294967296) ∧
      (w 3).getLsbD 16 = x.seam ∧ (w 3).getLsbD 17 = x.lowSpeed ∧ (w 3).getLsbD 18 = x.slide ∧
      (w 3).getLsbD 19 = x.slew ∧ (w 3).getLsbD 20 = x.rebase ∧ (w 3).getLsbD 21 = x.tail ∧
      (w 3).getLsbD 22 = x.suppressed ∧ (w 3).getLsbD 23 = x.exceeding ∧ (w 3).extractLsb' 24 8 = 0#8 ∧
      (w 4).extractLsb' 0 20 = BitVec.ofNat 20 x.speed ∧ (w 4).extractLsb' 20 3 = BitVec.ofNat 3 x.trackClass.val ∧
      (w 4).extractLsb' 23 2 = (match x.locState with
        | .unfixed => 0#2
        | .fixed => 1#2
        | .doubtful => 2#2) ∧
      (w 4).extractLsb' 25 2 = (match x.odoState with
        | .normal => 0#2
        | .slide => 1#2
        | .fault => 2#2) ∧
      (w 4).extractLsb' 27 2 = BitVec.ofNat 2 x.highest ∧ (w 4).extractLsb' 29 3 = 0#3 ∧
      low 5 x.values.gauge ∧ high 5 x.values.cant ∧ low 6 x.values.levelL ∧ high 6 x.values.levelR ∧
      low 7 x.values.alignL ∧ high 7 x.values.alignR ∧ low 8 x.values.twist ∧ high 8 x.values.curv ∧
      (w 9).extractLsb' 16 16 = BitVec.ofNat 16 x.sectionId ∧
      ∀ (n : Nat) (st : Status),
        (n, st) ∈ [ (0, x.statuses.gauge), (1, x.statuses.cant), (2, x.statuses.levelL), (3, x.statuses.levelR),
          (4, x.statuses.alignL), (5, x.statuses.alignR), (6, x.statuses.twist), (7, x.statuses.curv) ] →
        (w 9).extractLsb' (2 * n) 2 = (match st with
          | .good => 0#2
          | .held => 1#2
          | .clamped => 2#2
          | .void => 3#2))

/-- STREAM_POINTS with an empty store in IDLE is refused. Else an older stream ends with REPLACED, the new one begins, and
the reply carries cursor and count; then a cursor below the oldest retained index loses the points between, and the frames
due are built, which is spelled out below; with its cursor above C the stream waits in a run, and in IDLE ends at once
with RUN_OVER (R101, R105, R107). STOP_STREAM ends a stream with STOPPED and answers 1, or answers 0 (R110). On an ACTIVE
port, a POINTS frame is built exactly under the conditions of R103, with as many points as R102 gives, until one of them
fails; the stream ends with COUNT_DONE when its count reaches 0 (R106), and in IDLE with RUN_OVER when its cursor is above
C (R107). A cursor below the oldest retained index loses the points between, with a GAP notice (R104). The build
conditions are tested when the transmitter takes a notice (R103, R206). -/
def Obligations.StreamsBeginAndStop : Prop :=
  (∀ (p : PortId) (r : Request) (rest : List Request) (s : State),
    (∀ a b, Serves .streamPoints p r rest s → r.payload = [a, b] → s.store.w = none → s.run.state = .idle →
      exec (.streamPoints p) s = .next (s.answered p rest (refusal r .notReady 0))) ∧
    (∀ a b w, Serves .streamPoints p r rest s → r.payload = [a, b] → s.store.w = some w →
      let cursor := if a = 0xFFFFFFFF#32 then (match s.store.c with
        | some c => c + 1
        | none => 0) else a.toNat
      let remaining := if b = 0#32 ∨ b = 0xFFFFFFFF#32 then none else some b.toNat
      let begun : Stream := { cursor, remaining, tag := r.tag, delivered := 0, lost := 0 }
      let answered (q : Port) : Port := { q with
        inbox := rest,
        replies := (s.port p).replies ++ [.frame (answerTo r [wordOfNat cursor, wordOrAbsent remaining])] }
      let replaced (q : Port) : Port := match s.stream p with
        | some y => q.offer
            { cls := .streamEnd, tag := y.tag, payload := [5#32, wordOfNat y.cursor, wordOrAbsent y.remaining] }
        | none => q
      let u := setStream p (some begun) (s.setPort p (answered (replaced (s.port p))))
      let above : Prop := w - 4095 ≤ cursor ∧ ∀ c, s.store.c = some c → c < cursor
      (s.run.state ≠ .idle → exec (.streamPoints p) s = .next (streamBuild p (gapTest p u))) ∧
      (s.run.state ≠ .idle → above → exec (.streamPoints p) s = .next u) ∧
      (∀ c, s.run.state = .idle → s.store.c = some c → w - 4095 ≤ c → cursor ≤ c →
        exec (.streamPoints p) s = .next (streamBuild p (gapTest p u))) ∧
      (s.run.state = .idle → above →
        exec (.streamPoints p) s = .next ((setStream p none s).setPort p (answered ((replaced (s.port p)).offer
          { cls := .streamEnd, tag := r.tag, payload := [1#32, wordOfNat cursor, wordOrAbsent remaining] }))))) ∧
    (Serves .stopStream p r rest s → r.payload = [] → s.stream p = none →
      exec (.stopStream p) s = .next (s.answered p rest (answerTo r [0#32]))) ∧
    (∀ x, Serves .stopStream p r rest s → r.payload = [] → s.stream p = some x →
      exec (.stopStream p) s = .next ((setStream p none s).setPort p { (s.port p).offer
        { cls := .streamEnd, tag := x.tag,
          payload := [4#32, wordOfNat x.cursor, wordOrAbsent x.remaining] } with
          inbox := rest, replies := (s.port p).replies ++ [.frame (answerTo r [1#32])] }))) ∧
  (∀ (p : PortId) (x : Stream) (w : Nat) (s : State), s.stream p = some x → s.store.w = some w →
    (s.port p).state = .active → 12 ≤ (s.port p).options.maxReplyWords → x.remaining ≠ some 0 →
    let q := s.port p
    let oldest := w - 4095
    let moved (n : Nat) : Stream := { x with cursor := x.cursor + n, remaining := x.remaining.map (· - n) }
    let ended (why : Nat) (y : Stream) : Notice :=
      { cls := .streamEnd, tag := x.tag, payload := [wordOfNat why, wordOfNat y.cursor, wordOrAbsent y.remaining] }
    (∀ c, s.store.c = some c → x.cursor ≤ c → oldest ≤ x.cursor → q.notices.length + 5 ≤ 16 →
      let room := min (c - x.cursor + 1) ((q.options.maxReplyWords - 1) / 10)
      let n := match x.remaining with
        | some r => min room r
        | none => room
      let y : Stream := { moved n with delivered := min 4294967295 (x.delivered + n) }
      let q' := q.offer
        { cls := .points, tag := x.tag, payload := wordOrAbsent y.remaining ::
          (List.range n).flatMap fun i => ((s.store.point (x.cursor + i)).map PointRec.words).getD [] }
      1 ≤ n ∧
      (y.remaining = some 0 →
        streamBuild p s = setStream p none (s.setPort p (q'.offer (ended 0 y)))) ∧
      (y.remaining ≠ some 0 → s.run.state = .idle → c < y.cursor →
        streamBuild p s = setStream p none (s.setPort p (q'.offer (ended 1 y)))) ∧
      (y.remaining ≠ some 0 → s.run.state ≠ .idle → c < y.cursor →
        streamBuild p s = setStream p (some y) (s.setPort p q')) ∧
      (y.remaining ≠ some 0 → y.cursor ≤ c →
        streamBuild p s = streamBuild p (setStream p (some y) (s.setPort p q')))) ∧
    ((∀ c, s.store.c = some c → c < x.cursor ∨ x.cursor < oldest ∨ 16 < q.notices.length + 5) →
      streamBuild p s = s) ∧
    (oldest ≤ x.cursor → gapTest p s = s) ∧
    (x.cursor < oldest →
      let n := match x.remaining with
        | some r => min r (oldest - x.cursor)
        | none => oldest - x.cursor
      let y : Stream := { moved n with lost := min 4294967295 (x.lost + n) }
      let q' := q.offer
        { cls := .gap, tag := x.tag,
          payload := [wordOfNat x.cursor, wordOfNat (x.cursor + n - 1), wordOfNat n, wordOrAbsent y.remaining] }
      (y.remaining = some 0 → gapTest p s = setStream p none (s.setPort p (q'.offer (ended 0 y)))) ∧
      (y.remaining ≠ some 0 → gapTest p s = streamBuild p (setStream p (some y) (s.setPort p q')))) ∧
    (∀ n rest, q.sending = none → 2000 ≤ s.now → reservedSlots q.replies = q.replies.length → q.notices = n :: rest →
      exec (.transmitFrameStart p) s = .next (streamBuild p (s.setPort p { q with
        notices := rest, txSeq := q.txSeq + 1,
        sending := some (frameBytes (BitVec.ofNat 8 (0x60 + n.cls.bit)) n.tag q.txSeq n.payload) }))))

/-- ACK_URGENT: an UNACKED record becomes ACKED, URGENT is judged again, and every ACTIVE port is told before the reply;
the other outcomes change nothing but the reply queue (R166). -/
def Obligations.AckUrgentAcknowledges : Prop :=
  ∀ (p : PortId) (r : Request) (rest : List Request) (w : Word) (s : State),
    Serves .ackUrgent p r rest s → r.payload = [w] →
    ((∀ x ∈ s.exm.records, x.id ≠ w.toNat) →
      exec (.ackUrgent p) s = .next (s.answered p rest (refusal r .unknownId 0))) ∧
    (∀ x, findRecord w.toNat s.exm.records = some x →
      (x.urgency = .acked → exec (.ackUrgent p) s = .next (s.answered p rest (answerTo r [w, 1#32]))) ∧
      (x.urgency = .notUrgent → exec (.ackUrgent p) s = .next (s.answered p rest (answerTo r [w, 2#32]))) ∧
      (x.urgency = .unacked → ∃ t, exec (.ackUrgent p) s = .next t ∧
        (let records := s.exm.records.map fun y => if y.id = w.toNat then { y with urgency := .acked } else y
         t.exm = { s.exm with
           records := records, urgent := records.any (fun y => decide (y.urgency = .unacked)),
           acknowledgements := min 65535 (s.exm.acknowledgements + 1) }) ∧
        (∀ j, (t.port j).notices = ((s.port j).offer
          { cls := .urgentAcked, tag := 0#8,
            payload := ({ x with urgency := .acked } : ExcRecord).words ++ [wordOfNat p.code] }).notices) ∧
        (t.port p).replies = (s.port p).replies ++ [.frame (answerTo r [w, 0#32])] ∧ (t.port p).inbox = rest ∧
        t = { s with exm := t.exm, ports := t.ports }))

/-- READ_EXCEEDANCES returns the tail of the list from the from-id on, as much as is asked for and fits (R170); and the
nine words of a record (R168). -/
def Obligations.ReadExceedancesReturnsTheTail : Prop :=
  (∀ (p : PortId) (r : Request) (rest : List Request) (a b : Word) (s : State),
    Serves .readExceedances p r rest s → r.payload = [a, b] →
    let tail := s.exm.records.filter fun x => decide (a.toNat ≤ x.id)
    let fit := ((s.port p).options.maxReplyWords - 3) / 9
    let n := if b = 0#32 then min tail.length fit else min (min tail.length fit) b.toNat
    exec (.readExceedances p) s = .next (s.answered p rest (answerTo r
      ([ wordOfNat s.exm.records.length,
         match tail[n]? with
         | some x => wordOfNat x.id
         | none => 0xFFFFFFFF#32 ] ++ (tail.take n).flatMap ExcRecord.words)))) ∧
  (∀ x : ExcRecord, x.level ≤ 3 →
    let w (i : Nat) : Word := x.words.getD i 0#32
    x.words.length = 9 ∧ w 0 = BitVec.ofNat 32 x.id ∧
      (w 1).extractLsb' 0 8 = (match x.param with
        | .gauge => 0#8
        | .cant => 1#8
        | .levelL => 2#8
        | .levelR => 3#8
        | .alignL => 4#8
        | .alignR => 5#8
        | .twist => 6#8
        | .curv => 7#8) ∧
      (w 1).extractLsb' 8 8 = (match x.side with
        | .high => 0#8
        | .low => 1#8) ∧
      (w 1).extractLsb' 16 8 = BitVec.ofNat 8 x.level ∧
      (w 1).extractLsb' 24 8 = (match x.urgency with
        | .notUrgent => 0#8
        | .unacked => 1#8
        | .acked => 2#8) ∧
      w 2 = BitVec.ofNat 32 x.startIndex ∧ w 3 = BitVec.ofInt 32 x.startChainage ∧
      w 6 = BitVec.ofNat 32 x.peakIndex ∧ (w 7).extractLsb' 0 16 = BitVec.ofInt 16 x.peakValue ∧
      (w 7).extractLsb' 16 16 = BitVec.ofNat 16 x.sectionId ∧
      (w 8).extractLsb' 16 16 = (if x.continued then 1#16 else 0#16) ∧
      (x.closing = none → w 4 = 0xFFFFFFFF#32 ∧ w 5 = 0#32 ∧ (w 8).extractLsb' 0 16 = 0xFFFF#16) ∧
      ∀ y, x.closing = some y → w 4 = BitVec.ofNat 32 y.endIndex ∧ w 5 = BitVec.ofInt 32 y.endChainage ∧
        (w 8).extractLsb' 0 16 = (match y.reason with
          | .below => 0#16
          | .side => 1#16
          | .length => 2#16
          | .void => 3#16
          | .suppressed => 4#16
          | .runEnd => 5#16))

/-! ### Refusals before the owning block -/

/-- A request whose kind is no request kind is refused UNKNOWN_KIND; a request of a length that its kind does not permit
is refused BAD_PAYLOAD, whether or not the port holds authority; and the twelve requests that need authority, of a
permitted length, from a port that does not hold it, are refused NOT_HOLDER. Nothing else of the part changes (R211,
orders 1 to 3). -/
def Obligations.RefusalsBeforeTheOwningBlock : Prop :=
  ∀ (p : PortId) (r : Request) (rest : List Request) (s : State),
    ((s.port p).inbox = r :: rest → (r.kind.toNat = 0 ∨ 28 < r.kind.toNat) → (s.port p).inService = none →
      (s.port p).replies.length < 4 → reservedSlots (s.port p).replies = 0 →
      exec (.unknownKindRequest p) s = .next (s.answered p rest (refusal r .unknownKind 0))) ∧
    (∀ (k : RequestKind) (c : Instr) (low high : Nat),
      (k, c, low, high) ∈
        [ (RequestKind.identify, Instr.identify p, 0, 0), (.setLink, .setLink p, 4, 4),
          (.readStatus, .readStatus p, 1, 1), (.readTable, .readTable p, 2, 2), (.readPoints, .readPoints p, 2, 2),
          (.streamPoints, .streamPoints p, 2, 2), (.stopStream, .stopStream p, 0, 0),
          (.readExceedances, .readExceedances p, 2, 2), (.ackUrgent, .ackUrgent p, 1, 1), (.claim, .claim p, 0, 0),
          (.yield, .yield p, 0, 0), (.keep, .keep p, 0, 0), (.release, .release p, 0, 0), (.rejoin, .rejoin p, 0, 0),
          (.loadSettings, .loadSettings p, 32, 32), (.loadThresholds, .loadThresholds p, 25, 25),
          (.sectionPut, .sectionPut p, 6, 10), (.sectionDrop, .sectionDrop p, 1, 1),
          (.sectionClear, .sectionClear p, 0, 0), (.markerPut, .markerPut p, 2, 2), (.markerDrop, .markerDrop p, 1, 1),
          (.markerClear, .markerClear p, 0, 0), (.startRun, .startRun p, 3, 3), (.endRun, .endRun p, 0, 0),
          (.manualFix, .manualFix p, 1, 1), (.resetPart, .resetPart p, 0, 0) ] →
      Serves k p r rest s → (r.payload.length < low ∨ high < r.payload.length) →
      exec c s = .next (s.answered p rest (refusal r .badPayload 0))) ∧
    (∀ (k : RequestKind) (c : Instr) (low high : Nat),
      (k, c, low, high) ∈
        [ (RequestKind.loadSettings, Instr.loadSettings p, 32, 32), (.loadThresholds, .loadThresholds p, 25, 25),
          (.sectionPut, .sectionPut p, 6, 10), (.sectionDrop, .sectionDrop p, 1, 1),
          (.sectionClear, .sectionClear p, 0, 0), (.markerPut, .markerPut p, 2, 2),
          (.markerDrop, .markerDrop p, 1, 1), (.markerClear, .markerClear p, 0, 0), (.startRun, .startRun p, 3, 3),
          (.endRun, .endRun p, 0, 0), (.manualFix, .manualFix p, 1, 1), (.resetPart, .resetPart p, 0, 0) ] →
      Serves k p r rest s → low ≤ r.payload.length → r.payload.length ≤ high → s.svc.holder ≠ some p →
      exec c s = .next (s.answered p rest (refusal r .notHolder 0)))

/-! ### Settings and tables -/

/-- LOAD_SETTINGS from the holder: WRONG_STATE outside IDLE; RANGE with the first field outside its range, the 32 ranges
spelled out in field order; else all 32 fields are replaced and counted, the channels derive q and r with remainder 0, and
the primary is believed; and on each line a candidate that has held for the new glitch_us is validated at the load, while
one that has not stays (R4, R23, R185 to R187). -/
def Obligations.LoadSettingsReplacesTheRecord : Prop :=
  ∀ (p : PortId) (r : Request) (rest : List Request) (s : State),
    Serves .loadSettings p r rest s → r.payload.length = 32 → s.svc.holder = some p →
    let fields := r.payload.map (·.toNat)
    let ranges : List (Nat × Nat) :=
      [ (100, 4096), (100, 4096), (2000000, 4000000), (2000000, 4000000), (0, 1), (1, 255), (5, 100), (0, 1000),
        (0, 5000), (0, 5000), (0, 5000), (0, 5000), (5, 500), (100, 20000), (0, 16), (100000, 180000),
        (100000, 180000), (100000, 200000), (4, 80), (4, 80), (4, 40), (6, 16), (1389, 16667), (1000, 200000),
        (1, 125), (1, 15), (0, 8), (40, 4000), (0, 7), (50, 2000), (1, 15), (100, 5000) ]
    let ok (n : Nat) : Prop := (ranges.getD n (0, 0)).1 ≤ fields.getD n 0 ∧ fields.getD n 0 ≤ (ranges.getD n (0, 0)).2
    (s.run.state ≠ .idle → exec (.loadSettings p) s = .next (s.answered p rest (refusal r .wrongState 0))) ∧
    (∀ n, s.run.state = .idle → n < 32 → ¬ok n → (∀ m, m < n → ok m) →
      exec (.loadSettings p) s = .next (s.answered p rest (refusal r .range (n + 1)))) ∧
    (s.run.state = .idle → (∀ n, n < 32 → ok n) →
      let f (n : Nat) : Nat := fields.getD (n - 1) 0
      let c : Settings :=
        { pprT1 := f 1, pprT2 := f 2, circT1 := f 3, circT2 := f 4, primary := f 5, glitchUs := f 6, slideTol := f 7,
          backtrackMm := f 8, latencyL := f 9, latencyR := f 10, latencyI := f 11, latencyM := f 12, staleMs := f 13,
          alignWaitUs := f 14, holdLimit := f 15, headSpan := f 16, nominalGauge := f 17, cantBase := f 18,
          levelHalf := f 19, alignHalf := f 20, twistBase := f 21, leakShift := f 22, vMin := f 23, captureMm := f 24,
          slewMm := f 25, mismatchLimit := f 26, gapTol := f 27, maxRecordPoints := f 28, defaultClass := f 29,
          presenceMs := f 30, badFrameLimit := f 31, yieldMs := f 32 }
      let count := min 65535 (s.run.loadCount + 1)
      let line (x : LineState) : LineState :=
        if (∃ t ∈ x.candidate, t + c.glitchUs ≤ s.now) then { raw := x.raw, filtered := !x.filtered, candidate := none }
        else x
      exec (.loadSettings p) s = .next ({ s with
        run := { s.run with settings := c, loadCount := count },
        odo := { s.odo with
          lines := ⟨line s.odo.lines.t1A, line s.odo.lines.t1B, line s.odo.lines.t2A, line s.odo.lines.t2B⟩,
          tach :=
            ⟨{ s.odo.tach.t1 with q := c.circT1 / c.pprT1, r := c.circT1 % c.pprT1, rem := 0 },
             { s.odo.tach.t2 with q := c.circT2 / c.pprT2, r := c.circT2 % c.pprT2, rem := 0 }⟩,
          believed := if c.primary = 0 then .t1 else .t2 } }.answered p rest
        (answerTo r [wordOfNat count])))

/-- LOAD_THRESHOLDS from the holder: its refusals in their order; else the 48 limits of the class are replaced, the other
sets are unchanged, and the load is counted (R145, R146). -/
def Obligations.LoadThresholdsReplacesOneClass : Prop :=
  ∀ (p : PortId) (r : Request) (rest : List Request) (s : State),
    Serves .loadThresholds p r rest s → r.payload.length = 25 → s.svc.holder = some p →
    let cls := (r.payload.getD 0 0#32).toNat
    let limit (i : Nat) : Nat := (r.payload.getD (1 + i / 2) 0#32).toNat / 65536 ^ (i % 2) % 65536
    let passes (i : Nat) : Prop := limit i ≤ 32767 ∧
      (limit i = 0 ∨ ∀ j, j < i → j / 3 = i / 3 → limit j < limit i)
    (s.run.state ≠ .idle → exec (.loadThresholds p) s = .next (s.answered p rest (refusal r .wrongState 0))) ∧
    (s.run.state = .idle → 7 < cls →
      exec (.loadThresholds p) s = .next (s.answered p rest (refusal r .range 1))) ∧
    (∀ i, s.run.state = .idle → cls ≤ 7 → i < 48 → ¬passes i → (∀ j, j < i → passes j) →
      exec (.loadThresholds p) s = .next (s.answered p rest (refusal r .range (2 + i)))) ∧
    (s.run.state = .idle → cls ≤ 7 → (∀ i, i < 48 → passes i) →
      ∃ t : State, exec (.loadThresholds p) s = .next (t.answered p rest (answerTo r [wordOfNat cls])) ∧
        t = { s with cls := { s.cls with thresholds := t.cls.thresholds, loads := min 65535 (s.cls.loads + 1) } } ∧
        ∀ (k : Fin 8) (q : Param),
          (k.val ≠ cls → t.cls.thresholds.get k = s.cls.thresholds.get k) ∧
          (k.val = cls → (t.cls.thresholds.get k).get q =
            { hi1 := limit (6 * q.code), hi2 := limit (6 * q.code + 1), hi3 := limit (6 * q.code + 2),
              lo1 := limit (6 * q.code + 3), lo2 := limit (6 * q.code + 4), lo3 := limit (6 * q.code + 5) }))

/-- SECTION_PUT from the holder. The seven checks of R138 in their order: the id, the class, the mask, the label length,
the payload length, the label's characters, and the range; the entry that passes them holds the fields it was sent. Then
OVERLAP, TABLE_FULL and TOO_CLOSE in that order; else the entry takes its place in start order, replacing one of its id,
and the edit is counted (R138 to R140, R149). -/
def Obligations.SectionPutInsertsOrReplaces : Prop :=
  ∀ (p : PortId) (r : Request) (rest : List Request) (s : State),
    Serves .sectionPut p r rest s → 6 ≤ r.payload.length → r.payload.length ≤ 10 → s.svc.holder = some p →
    let word (n : Nat) : Word := r.payload.getD (n - 1) 0#32
    let id := (word 1).toNat
    let n := if word 6 = 0xFFFFFFFF#32 then 0 else (word 6).toNat
    let char (i : Nat) : Nat := (word (7 + i / 4)).toNat / 256 ^ (i % 4) % 256
    let printable (i : Nat) : Prop := 0x20 ≤ char i ∧ char i ≤ 0x7E
    let okId : Prop := 1 ≤ id ∧ id ≤ 65535
    let okClass : Prop := (word 4).toNat ≤ 7
    let okMask : Prop := word 5 = 0xFFFFFFFF#32 ∨ (word 5).toNat ≤ 255
    let okLabel : Prop := n ≤ 16
    let okLength : Prop := r.payload.length = 6 + (n + 3) / 4
    let okRange : Prop := (word 2).toInt < (word 3).toInt
    let refused (why : Reason) (field : Nat) : Prop :=
      exec (.sectionPut p) s = .next (s.answered p rest (refusal r why field))
    (¬okId → refused .range 1) ∧
    (okId → ¬okClass → refused .range 4) ∧
    (okId → okClass → ¬okMask → refused .range 5) ∧
    (okId → okClass → okMask → ¬okLabel → refused .range 6) ∧
    (okId → okClass → okMask → okLabel → ¬okLength → refused .badPayload 0) ∧
    (∀ i, okId → okClass → okMask → okLabel → okLength → i < n → ¬printable i → (∀ j, j < i → printable j) →
      refused .range (7 + i / 4)) ∧
    (okId → okClass → okMask → okLabel → okLength → (∀ i, i < n → printable i) → ¬okRange → refused .range 3) ∧
    (okId → okClass → okMask → okLabel → okLength → (∀ i, i < n → printable i) → okRange →
      ∃ e, parseSection r.payload = .ok e ∧ e.id = id ∧ e.start = (word 2).toInt ∧ e.stop = (word 3).toInt ∧
        e.trackClass.val = (word 4).toNat ∧
        e.mask = (if word 5 = 0xFFFFFFFF#32 then none else some ((word 5).setWidth 8)) ∧
        e.label = (if word 6 = 0xFFFFFFFF#32 then none
          else some ((List.range n).map fun i => BitVec.ofNat 8 (char i)))) ∧
    ∀ e : SectionEntry, parseSection r.payload = .ok e →
    let others := s.cls.sections.filter fun x => decide (x.id ≠ e.id)
    let overlaps : Prop := ∃ x ∈ others, e.start < x.stop ∧ x.start < e.stop
    let held : Prop := ∃ x ∈ s.cls.sections, x.id = e.id
    let full : Prop := ¬held ∧ 128 ≤ s.cls.sections.length
    let close (x : SectionEntry) : Prop := s.run.state = .running ∧ ∃ c, s.pos.lastChainage = some c ∧
      ((s.pos.sense = .rising ∧ x.start < c + 200000) ∨ (s.pos.sense = .falling ∧ c - 200000 < x.stop))
    let tooClose : Prop := close e ∨ ∃ x, findSection e.id s.cls.sections = some x ∧ close x
    (overlaps → exec (.sectionPut p) s = .next (s.answered p rest (refusal r .overlap 0))) ∧
    (¬overlaps → full → exec (.sectionPut p) s = .next (s.answered p rest (refusal r .tableFull 0))) ∧
    (¬overlaps → ¬full → tooClose →
      exec (.sectionPut p) s = .next (s.answered p rest (refusal r .tooClose 0))) ∧
    (¬overlaps → ¬full → ¬tooClose → ∃ front back : List SectionEntry, front ++ back = others ∧
      (∀ x ∈ front, x.start ≤ e.start) ∧ (∀ x ∈ back.head?, e.start < x.start) ∧
      ∃ replaced : Word, (held → replaced = 1#32) ∧ (¬held → replaced = 0#32) ∧
        exec (.sectionPut p) s = .next ({ s with cls := { s.cls with
            sections := front ++ e :: back, editCount := (s.cls.editCount + 1) % 65536 } }.answered p rest
          (answerTo r [replaced, wordOfNat (others.length + 1), wordOfNat front.length])))

/-- SECTION_DROP and SECTION_CLEAR from the holder (R141, R142). -/
def Obligations.SectionDropAndClear : Prop :=
  ∀ (p : PortId) (r : Request) (rest : List Request) (s : State), s.svc.holder = some p →
    (∀ w, Serves .sectionDrop p r rest s → r.payload = [w] →
      (findSection w.toNat s.cls.sections = none →
        exec (.sectionDrop p) s = .next (s.answered p rest (refusal r .unknownId 0))) ∧
      (∀ e, findSection w.toNat s.cls.sections = some e →
        let close : Prop := s.run.state = .running ∧ ∃ c, s.pos.lastChainage = some c ∧
          ((s.pos.sense = .rising ∧ e.start < c + 200000) ∨ (s.pos.sense = .falling ∧ c - 200000 < e.stop))
        let l := s.cls.sections.filter fun x => decide (x.id ≠ w.toNat)
        (close → exec (.sectionDrop p) s = .next (s.answered p rest (refusal r .tooClose 0))) ∧
        (¬close → exec (.sectionDrop p) s = .next ({ s with cls := { s.cls with
            sections := l, editCount := (s.cls.editCount + 1) % 65536 } }.answered p rest
          (answerTo r [wordOfNat l.length]))))) ∧
    (Serves .sectionClear p r rest s → r.payload = [] →
      (s.run.state = .idle → exec (.sectionClear p) s = .next ({ s with cls := { s.cls with
          sections := [], editCount := (s.cls.editCount + 1) % 65536 } }.answered p rest
        (answerTo r [wordOfNat s.cls.sections.length]))) ∧
      (s.run.state ≠ .idle →
        exec (.sectionClear p) s = .next (s.answered p rest (refusal r .wrongState 0))))

/-- MARKER_PUT, MARKER_DROP and MARKER_CLEAR from the holder, on a table in ident order (R117 to R119). -/
def Obligations.MarkerEdits : Prop :=
  ∀ (p : PortId) (r : Request) (rest : List Request) (s : State), s.svc.holder = some p →
    s.pos.markers.Pairwise (fun a b => a.1 < b.1) →
    (∀ i c : Word, Serves .markerPut p r rest s → r.payload = [i, c] →
      let held : Prop := ∃ x ∈ s.pos.markers, x.1 = i.toNat
      (¬held → 512 ≤ s.pos.markers.length →
        exec (.markerPut p) s = .next (s.answered p rest (refusal r .tableFull 0))) ∧
      (held ∨ s.pos.markers.length < 512 → ∃ (l : List (Nat × Int)) (replaced : Word),
        l.Pairwise (fun a b => a.1 < b.1) ∧
        (∀ x, x ∈ l ↔ x = (i.toNat, c.toInt) ∨ x ∈ s.pos.markers ∧ x.1 ≠ i.toNat) ∧
        (held → replaced = 1#32) ∧ (¬held → replaced = 0#32) ∧
        exec (.markerPut p) s = .next ({ s with pos := { s.pos with markers := l } }.answered p rest
          (answerTo r [replaced, wordOfNat l.length])))) ∧
    (∀ i : Word, Serves .markerDrop p r rest s → r.payload = [i] →
      let held : Prop := ∃ x ∈ s.pos.markers, x.1 = i.toNat
      let l := s.pos.markers.filter fun x => decide (x.1 ≠ i.toNat)
      (held → exec (.markerDrop p) s = .next ({ s with pos := { s.pos with markers := l } }.answered p rest
        (answerTo r [wordOfNat l.length]))) ∧
      (¬held → exec (.markerDrop p) s = .next (s.answered p rest (refusal r .unknownId 0)))) ∧
    (Serves .markerClear p r rest s → r.payload = [] →
      (s.run.state = .idle → exec (.markerClear p) s = .next ({ s with pos := { s.pos with
        markers := [] } }.answered p rest (answerTo r [wordOfNat s.pos.markers.length]))) ∧
      (s.run.state ≠ .idle → exec (.markerClear p) s = .next (s.answered p rest (refusal r .wrongState 0))))

/-! ### Runs -/

/-- START_RUN from the holder: its refusals in their order; else a new run, with ODO, INTAKE, GRID, GEO, STORE, POS,
CLS and EXM at their run-start values, the streams ended with NEW_RUN, every ACTIVE port told, point 0 created at the
start chainage, and the tables and settings as they stood (R176 to R178, R14, R23, R42, R55, R85, R108, R114, R172).
Point 0 waits for its alignment deadline (kept above 2^48 - 1 as it is, log 30) while a queued source is LIVE; else it
is formed at once with every source VOID and is a seam. Word 8 of the RUN notice is FFFFFFFFh (log 24). The premises
on settings are ranges of R185, which `SettingsInv` holds. -/
def Obligations.StartRunBeginsARun : Prop :=
  ∀ (p : PortId) (r : Request) (rest : List Request) (d n c : Word) (s : State),
    Serves .startRun p r rest s → r.payload = [d, n, c] → s.svc.holder = some p → 4 ≤ s.run.settings.levelHalf →
    1 ≤ s.run.settings.alignWaitUs → 1 ≤ s.run.settings.vMin →
    (s.run.state ≠ .idle → exec (.startRun p) s = .next (s.answered p rest (refusal r .wrongState 0))) ∧
    (s.run.state = .idle → 1 < d.toNat →
      exec (.startRun p) s = .next (s.answered p rest (refusal r .range 1))) ∧
    (s.run.state = .idle → d.toNat ≤ 1 → 1 < n.toNat →
      exec (.startRun p) s = .next (s.answered p rest (refusal r .range 2))) ∧
    (s.run.state = .idle → d.toNat ≤ 1 → n.toNat ≤ 1 → ∃ t, exec (.startRun p) s = .next t ∧
      let direction : Direction := if d = 0#32 then .forward else .reverse
      let sense : Sense := if n = 0#32 then .rising else .falling
      let number := s.run.number + 1
      let cleared (x : Tach) : Tach := { x with rem := 0, dist := 0, glitches := 0 }
      let isLive (x : Source) : Prop := (s.unit x).state = .live
      let waits : Prop := isLive .headL ∨ isLive .headR ∨ isLive .inertial
      let told (j : PortId) : Port :=
        (match s.stream j with
          | some y => (s.port j).offer
              { cls := .streamEnd, tag := y.tag, payload := [2#32, wordOfNat y.cursor, wordOrAbsent y.remaining] }
          | none => s.port j).offer
          { cls := .run, tag := 0#8, payload :=
            [ 0#32, number.setWidth 32, 1#32, d, n, c, 0#32, 0xFFFFFFFF#32, wordOfNat s.now,
              wordOfNat (s.now / 4294967296) ] }
      t.run = { s.run with
        state := .running, number, record := some { direction, sense, start := c.toInt, t0 := s.now } } ∧
      t.store.w = some 0 ∧ t.store.c = none ∧ (∃ x, t.store.point 0 = some x ∧ x.chainage = c.toInt ∧
        x.crossing = s.now ∧ x.slide = false ∧ x.slew = false ∧ x.rebase = false ∧ x.speed = 0 ∧
        x.odoState = .normal ∧ x.locState = .unfixed ∧ t.store.slots = [(0, x)] ∧
        (¬waits → x.seam = true ∧ x.lowSpeed = true)) ∧ t.store.overwritten = 0 ∧
      t.odo = { s.odo with
        tach := ⟨cleared s.odo.tach.t1, cleared s.odo.tach.t2⟩, direction, runDistance := 0, highWater := 0,
        eventRec := some (s.now, 0), history := [(s.now, 0)], state := .normal,
        believed := if s.run.settings.primary = 0 then .t1 else .t2, window := some Window.empty, backtrack := false,
        pendingSeam := false, lastSpeed := 0, lastCrossing := s.now, judged := 0, discarded := 0, disagreeing := 0,
        agreeRun := 0, disagreeRun := 0, spacingOwed := s.odo.spacingOwed + 1 } ∧
      t.intake = { s.intake with queueL := [], queueR := [], queueI := [], refTime := some s.now } ∧
      (waits → t.store.f = none ∧ t.geo = Geo.reset ∧ t.grid = { Grid.reset with
        waiting := [{ index := 0, crossing := s.now, speed := 0, afterBacktrack := false }],
        deadline := some (s.now + s.run.settings.alignWaitUs) }) ∧
      (¬waits → t.store.f = some 0 ∧
        (let x : GridSource := { holdCount := 1, heldPoints := 0, voidPoints := 1, deadlinePoints := 0 }
         t.grid = { Grid.reset with units := ⟨x, x, x⟩ }) ∧
        t.geo = { Geo.reset with low := .inside, seams := 1, lowEntries := 1, chord := t.geo.chord,
                                 cants := [{ index := 0, value := 0, status := .void }] } ∧
        t.geo.chord.map (fun e => (e.index, e.seam, e.lowSpeed)) = [(0, true, true)]) ∧
      t.pos = { Pos.reset with base := c.toInt, sense, lastChainage := some c.toInt, markers := s.pos.markers } ∧
      t.exm = Exm.reset ∧ t.cls = { s.cls with inSection := 0, defaulted := 0 } ∧ t.svc = s.svc ∧
      (∀ j, t.stream j = none) ∧ (∀ j, j ≠ p → t.port j = told j) ∧
      t.port p = { told p with
        inbox := rest,
        replies := (s.port p).replies ++ [.frame (answerTo r
          [number.setWidth 32, wordOfNat s.now, wordOfNat (s.now / 4294967296)])] } ∧
      t.now = s.now ∧ t.freeCount = s.freeCount ∧ t.pending = s.pending)

/-- END_RUN from the holder: refused outside RUNNING; else the run is FINISHING in stage FORMING and the request stays in
service with its reservation (R179). With created points still waiting nothing else happens; with none the run ends at
once: the tail, the RUN_END closes, the RUN ENDED notice, and the reply (R56, R83, R171, R178, R180, R181), and the points
before the tail stand as they were. The RUN_END closes are those of every open record at its last exceeding point
(R171). -/
def Obligations.EndRunWaitsForItsAnswer : Prop :=
  (∀ (p : PortId) (r : Request) (rest : List Request) (s : State),
    Serves .endRun p r rest s → r.payload = [] → s.svc.holder = some p →
    let finishing : State := { s with
      run := { s.run with state := .finishing .forming, pendingEnd := some (p, r.tag) },
      ports := s.ports.set p { s.port p with
        inbox := rest, inService := some (.endRun r.tag), replies := (s.port p).replies ++ [.reserved] } }
    (s.run.state ≠ .running → exec (.endRun p) s = .next (s.answered p rest (refusal r .wrongState 0))) ∧
    (s.run.state = .running → s.grid.waiting ≠ [] → exec (.endRun p) s = .next finishing) ∧
    (∀ w, s.run.state = .running → s.grid.waiting = [] → s.store.w = some w →
      s.store.c = behind (some w) s.run.settings.mMax →
      ∃ t, exec (.endRun p) s = .next t ∧ RunEnds w finishing t ∧ t.store.f = s.store.f ∧
        t.grid = { s.grid with finished := true, deadline := none } ∧
        t.intake = { s.intake with refTime := none } ∧
        (∀ i, i + s.run.settings.mMax ≤ w → t.store.point i = s.store.point i) ∧
        (t.port p).inService = none ∧ (t.port p).inbox = rest ∧
        (t.port p).replies = (s.port p).replies ++ [.frame (answerTo r
          [s.run.number.setWidth 32, wordOfNat w,
            wordOfNat (min (w + 1) (max s.run.settings.levelHalf s.run.settings.alignHalf))])])) ∧
  (∀ s : State, ExmInv s.exm → OpenRecordsClose .runEnd s (closeAllRunEnd s))

/-- MANUAL_FIX from the holder: refused outside RUNNING and for an offset out of range; else both offsets place point
W + 1 at the stated chainage plus one step, the position is FIXED, and the next point is a rebase (R129). Every port that
asks for LOCATION is offered the notice of the rebase: no marker fields, both offsets as set, the change of the applied
offset, limited as log 31 says, the run distance, the count and W + 1 (R128). -/
def Obligations.ManualFixSetsBothOffsets : Prop :=
  ∀ (p : PortId) (r : Request) (rest : List Request) (c : Word) (w : Nat) (s : State),
    Serves .manualFix p r rest s → r.payload = [c] → s.svc.holder = some p → s.store.w = some w →
    let offset := c.toInt - s.pos.base - s.pos.sense.sign * w * 250
    let fits : Prop := -2147483648 ≤ offset ∧ offset ≤ 2147483647
    (s.run.state ≠ .running → exec (.manualFix p) s = .next (s.answered p rest (refusal r .wrongState 0))) ∧
    (s.run.state = .running → ¬fits → exec (.manualFix p) s = .next (s.answered p rest (refusal r .range 1))) ∧
    (s.run.state = .running → fits → ∃ t, exec (.manualFix p) s = .next t ∧
      t.pos = { s.pos with
        applied := offset, target := offset, pendingRebase := true, state := .fixed, mismatch := 0, lastFix := none,
        manualFixes := min 65535 (s.pos.manualFixes + 1) } ∧
      t.pos.chainageAt (w + 1) t.pos.applied = c.toInt + s.pos.sense.sign * 250 ∧
      (let told (q : Port) : Port :=
         if q.options.noticeMask.getLsbD 0 then
           q.offer { cls := .location, tag := 0#8, payload :=
             [ 2#32, 0#32, 1#32, 0xFFFFFFFF#32, 0xFFFFFFFF#32, 0xFFFFFFFF#32,
               wordOfInt (max (-2147483648) (min 2147483647 (offset - s.pos.applied))), wordOfInt offset,
               wordOfInt offset, 0#32, wordOfInt s.odo.runDistance, wordOfNat s.now, wordOfNat (w + 1) ] }
         else q
       (∀ j, j ≠ p → t.port j = told (s.port j)) ∧
       t.port p = { told (s.port p) with
         inbox := rest,
         replies := (s.port p).replies ++ [.frame (answerTo r [wordOfNat (w + 1), wordOfInt offset])] }) ∧
      t = { s with pos := t.pos, ports := t.ports })

/-- RESET_PART from the holder, in every run state: the run is IDLE; every block has its RESET_PART values; authority and
claim are gone; the tables, the settings, the run number and record, and of the sources state, deadline and tracking
stay (R183 with R23, R42, R58, R109, R134, R150, R172). A port keeps its state, options, inbox, link errors and queued
answers; a pending CLAIM and a pending END_RUN are refused WRONG_STATE; every notice queue is flushed, then holds
STREAM_END RESET for a stream, RUN RESET with W and C as they stood, and AUTHORITY; and the requester is answered
(R184). When SPACING last changed is the model's own (log 20). -/
def Obligations.ResetPartReturnsToIdle : Prop :=
  ∀ (p : PortId) (r : Request) (rest : List Request) (s : State), ServiceInv s →
    Serves .resetPart p r rest s → r.payload = [] → s.svc.holder = some p →
    ∃ t, exec (.resetPart p) s = .next t ∧
      let cleared (x : Tach) : Tach := { x with rem := 0, dist := 0, glitches := 0 }
      let absent := Word.absent
      let told (j : PortId) : Port :=
        let q0 : Port := { s.port j with notices := [] }
        let q1 := match s.stream j with
          | some y => q0.offer
              { cls := .streamEnd, tag := y.tag, payload := [3#32, wordOfNat y.cursor, wordOrAbsent y.remaining] }
          | none => q0
        let q2 := q1.offer { cls := .run, tag := 0#8, payload :=
          [2#32, s.run.number.setWidth 32, 0#32] ++
          (match s.run.record with
            | some x => [wordOfNat x.direction.code, wordOfNat x.sense.code, wordOfInt x.start]
            | none => [absent, absent, 0#32]) ++
          [ wordOrAbsent s.store.w, wordOrAbsent s.store.c, wordOfNat s.now, wordOfNat (s.now / 4294967296) ] }
        q2.offer { cls := .authority, tag := 0#8, payload := [absent, wordOfNat p.code, 5#32] }
      let wrongState (tag : Byte) (kind : Word) : Answer := { kind := .refuse, tag, rest := [2#32, 0#32, kind] }
      t.run = { s.run with state := .idle, pendingEnd := none } ∧ t.grid = Grid.reset ∧ t.geo = Geo.reset ∧
      t.exm = Exm.reset ∧ t.svc = Svc.reset ∧ t.store = Store.reset ∧
      t.pos = { Pos.reset with markers := s.pos.markers } ∧
      t.cls = { s.cls with inSection := 0, defaulted := 0 } ∧
      t.odo = { s.odo with
        tach := ⟨cleared s.odo.tach.t1, cleared s.odo.tach.t2⟩, runDistance := 0, highWater := 0, eventRec := none,
        history := [], state := .normal, believed := if s.run.settings.primary = 0 then .t1 else .t2, window := none,
        backtrack := false, pendingSeam := false, lastSpeed := 0, lastCrossing := 0, judged := 0, discarded := 0,
        disagreeing := 0, agreeRun := 0, disagreeRun := 0, spacingOwed := 0, spacingHigh := false,
        spacingSince := if s.odo.spacingHigh then s.now else s.odo.spacingSince } ∧
      t.intake.queueL = [] ∧ t.intake.queueR = [] ∧ t.intake.queueI = [] ∧ t.intake.refTime = none ∧
      (∀ c, t.unit c = { SourceUnit.reset with
        linkUp := (s.unit c).linkUp, state := (s.unit c).state, deadline := (s.unit c).deadline,
        prevSeq := (s.unit c).prevSeq, prevStamp := (s.unit c).prevStamp }) ∧
      t.port p = { told p with
        inbox := rest, replies := (s.port p).replies ++ [.frame (answerTo r [s.run.number.setWidth 32])] } ∧
      (∀ j, j ≠ p → t.port j = { told j with
        inService := none,
        replies := match (s.port j).inService with
          | some (.claim tag) => fillReserved (wrongState tag 0x0C#32) (s.port j).replies
          | some (.endRun tag) => fillReserved (wrongState tag 0x1A#32) (s.port j).replies
          | none => (s.port j).replies }) ∧
      t.now = s.now ∧ t.freeCount = s.freeCount ∧ t.pending = s.pending

/-! ### What every step keeps -/

/-- Every step keeps the invariant of the client ports: the capacities of the three queues, ATTN, and the empty state of
a port that is not ACTIVE (R201, R202, R207). -/
def Obligations.StepsKeepThePorts : Prop := ∀ s t : State, PortsInv s → step s = .next t → PortsInv t

/-- Every step keeps the invariant of the requests in service and of authority (R204, R210, R217), from a state in which
an END_RUN is pending only in FINISHING, as `RunInv` says. -/
def Obligations.StepsKeepServiceAndAuthority : Prop :=
  ∀ s t : State, ServiceInv s → RunInv s → step s = .next t → ServiceInv t

/-- Every step keeps the exceedance list, its open records and the URGENT line (R154, R162, R165). -/
def Obligations.StepsKeepTheExceedanceList : Prop :=
  ∀ s t : State, ExmInv s.exm → step s = .next t → ExmInv t.exm

/-- Every step keeps the marker table, the section table and the threshold sets well formed, the settings in their
ranges, and each remainder below its pulses per turn (R6, R117, R135, R143, R185). -/
def Obligations.StepsKeepTheTablesAndSettings : Prop :=
  ∀ s t : State, step s = .next t → (TablesInv s → TablesInv t) ∧ (SettingsInv s → SettingsInv t)

/-- Every step keeps the frontiers in their order: in a run the waiting points are those after F up to W and C stands
m_max behind F, in IDLE all three are equal (R43, R81, R84, R91). -/
def Obligations.StepsKeepTheFrontiers : Prop := ∀ s t : State, RunInv s → step s = .next t → RunInv t

/-- Every step keeps the histories and integrators within their bounds and the ring of slots in form; the sample queues
in stamp order within their capacity, with a stale deadline exactly while a source is LIVE; and the count within its 48
bits (R2, R8, R27, R36, R66, R67, R71, R74, R90). -/
def Obligations.StepsKeepTheBuffersAndTheCount : Prop :=
  ∀ s t : State, step s = .next t →
    (BuffersInv s → BuffersInv t) ∧ (IntakeInv s.intake → IntakeInv t.intake) ∧ (TimeInv s → TimeInv t)

/-- While no port holds authority, no command but a reset changes the settings, the threshold sets, the section table,
the marker table or the run number (R211, chapter 11). -/
def Obligations.WithoutAuthorityNothingShared : Prop :=
  ∀ (c : Instr) (s t : State), s.svc.holder = none → c ≠ .powerOn → c ≠ .resetn → c ≠ .timebaseWrap →
    exec c s = .next t →
    t.run.settings = s.run.settings ∧ t.cls.thresholds = s.cls.thresholds ∧ t.cls.sections = s.cls.sections ∧
      t.pos.markers = s.pos.markers ∧ t.run.number = s.run.number
end

