-- ==== Sys2Proof/Laws/State.lean ====
section
/-!
SUPPORT. One lemma for each field of each named update of the state, so that no proof unfolds a record update.
-/

namespace Sys2Proof.Machine

/-! ### The fixed collections -/

@[simp] theorem PerPort.get_set {α : Type} (v : PerPort α) (k : PortId) (x : α) : (v.set k x).get k = x := by
  cases k <;> rfl

theorem PerPort.get_set_of_ne {α : Type} (v : PerPort α) {j k : PortId} (x : α) (h : j ≠ k) :
    (v.set k x).get j = v.get j := by
  cases j <;> cases k <;> first | rfl | exact absurd rfl h

theorem PerPort.get_set_ite {α : Type} (v : PerPort α) (j k : PortId) (x : α) :
    (v.set k x).get j = if j = k then x else v.get j := by
  cases j <;> cases k <;> rfl

@[simp] theorem PerPort.set_get {α : Type} (v : PerPort α) (k : PortId) : v.set k (v.get k) = v := by
  cases k <;> rfl

@[simp] theorem PerPort.set_set {α : Type} (v : PerPort α) (k : PortId) (x y : α) : (v.set k x).set k y = v.set k y := by
  cases k <;> rfl

@[simp] theorem PerSource.get_set {α : Type} (v : PerSource α) (k : Source) (x : α) : (v.set k x).get k = x := by
  cases k <;> rfl

theorem PerSource.get_set_of_ne {α : Type} (v : PerSource α) {j k : Source} (x : α) (h : j ≠ k) :
    (v.set k x).get j = v.get j := by
  cases j <;> cases k <;> first | rfl | exact absurd rfl h

theorem PerSource.get_set_ite {α : Type} (v : PerSource α) (j k : Source) (x : α) :
    (v.set k x).get j = if j = k then x else v.get j := by
  cases j <;> cases k <;> rfl

@[simp] theorem PerSource.set_get {α : Type} (v : PerSource α) (k : Source) : v.set k (v.get k) = v := by
  cases k <;> rfl

@[simp] theorem PerSource.set_set {α : Type} (v : PerSource α) (k : Source) (x y : α) : (v.set k x).set k y = v.set k y := by
  cases k <;> rfl

@[simp] theorem PerChannel.get_set {α : Type} (v : PerChannel α) (k : Channel) (x : α) : (v.set k x).get k = x := by
  cases k <;> rfl

theorem PerChannel.get_set_of_ne {α : Type} (v : PerChannel α) {j k : Channel} (x : α) (h : j ≠ k) :
    (v.set k x).get j = v.get j := by
  cases j <;> cases k <;> first | rfl | exact absurd rfl h

theorem PerChannel.get_set_ite {α : Type} (v : PerChannel α) (j k : Channel) (x : α) :
    (v.set k x).get j = if j = k then x else v.get j := by
  cases j <;> cases k <;> rfl

@[simp] theorem PerChannel.set_get {α : Type} (v : PerChannel α) (k : Channel) : v.set k (v.get k) = v := by
  cases k <;> rfl

@[simp] theorem PerChannel.set_set {α : Type} (v : PerChannel α) (k : Channel) (x y : α) : (v.set k x).set k y = v.set k y := by
  cases k <;> rfl

@[simp] theorem PerLine.get_set {α : Type} (v : PerLine α) (k : TachLine) (x : α) : (v.set k x).get k = x := by
  cases k <;> rfl

theorem PerLine.get_set_of_ne {α : Type} (v : PerLine α) {j k : TachLine} (x : α) (h : j ≠ k) :
    (v.set k x).get j = v.get j := by
  cases j <;> cases k <;> first | rfl | exact absurd rfl h

theorem PerLine.get_set_ite {α : Type} (v : PerLine α) (j k : TachLine) (x : α) :
    (v.set k x).get j = if j = k then x else v.get j := by
  cases j <;> cases k <;> rfl

@[simp] theorem PerLine.set_get {α : Type} (v : PerLine α) (k : TachLine) : v.set k (v.get k) = v := by
  cases k <;> rfl

@[simp] theorem PerLine.set_set {α : Type} (v : PerLine α) (k : TachLine) (x y : α) : (v.set k x).set k y = v.set k y := by
  cases k <;> rfl

@[simp] theorem PerParam.get_set {α : Type} (v : PerParam α) (k : Param) (x : α) : (v.set k x).get k = x := by
  cases k <;> rfl

theorem PerParam.get_set_of_ne {α : Type} (v : PerParam α) {j k : Param} (x : α) (h : j ≠ k) :
    (v.set k x).get j = v.get j := by
  cases j <;> cases k <;> first | rfl | exact absurd rfl h

theorem PerParam.get_set_ite {α : Type} (v : PerParam α) (j k : Param) (x : α) :
    (v.set k x).get j = if j = k then x else v.get j := by
  cases j <;> cases k <;> rfl

@[simp] theorem PerParam.set_get {α : Type} (v : PerParam α) (k : Param) : v.set k (v.get k) = v := by
  cases k <;> rfl

@[simp] theorem PerParam.set_set {α : Type} (v : PerParam α) (k : Param) (x y : α) : (v.set k x).set k y = v.set k y := by
  cases k <;> rfl

/-! ### One port replaced -/

@[simp] theorem State.setPort_now (s : State) (p : PortId) (q : Port) : (s.setPort p q).now = s.now := rfl

@[simp] theorem State.setPort_odo (s : State) (p : PortId) (q : Port) : (s.setPort p q).odo = s.odo := rfl

@[simp] theorem State.setPort_intake (s : State) (p : PortId) (q : Port) : (s.setPort p q).intake = s.intake := rfl

@[simp] theorem State.setPort_grid (s : State) (p : PortId) (q : Port) : (s.setPort p q).grid = s.grid := rfl

@[simp] theorem State.setPort_geo (s : State) (p : PortId) (q : Port) : (s.setPort p q).geo = s.geo := rfl

@[simp] theorem State.setPort_store (s : State) (p : PortId) (q : Port) : (s.setPort p q).store = s.store := rfl

@[simp] theorem State.setPort_pos (s : State) (p : PortId) (q : Port) : (s.setPort p q).pos = s.pos := rfl

@[simp] theorem State.setPort_cls (s : State) (p : PortId) (q : Port) : (s.setPort p q).cls = s.cls := rfl

@[simp] theorem State.setPort_exm (s : State) (p : PortId) (q : Port) : (s.setPort p q).exm = s.exm := rfl

@[simp] theorem State.setPort_run (s : State) (p : PortId) (q : Port) : (s.setPort p q).run = s.run := rfl

@[simp] theorem State.setPort_svc (s : State) (p : PortId) (q : Port) : (s.setPort p q).svc = s.svc := rfl

@[simp] theorem State.setPort_freeCount (s : State) (p : PortId) (q : Port) : (s.setPort p q).freeCount = s.freeCount := rfl

@[simp] theorem State.setPort_pending (s : State) (p : PortId) (q : Port) : (s.setPort p q).pending = s.pending := rfl

@[simp] theorem State.port_setPort (s : State) (p : PortId) (q : Port) : (s.setPort p q).port p = q :=
  PerPort.get_set s.ports p q

theorem State.port_setPort_of_ne (s : State) {j p : PortId} (q : Port) (h : j ≠ p) : (s.setPort p q).port j = s.port j :=
  PerPort.get_set_of_ne s.ports q h

theorem State.port_setPort_ite (s : State) (j p : PortId) (q : Port) :
    (s.setPort p q).port j = if j = p then q else s.port j := PerPort.get_set_ite s.ports j p q

@[simp] theorem State.setPort_setPort (s : State) (p : PortId) (q r : Port) :
    (s.setPort p q).setPort p r = s.setPort p r := by simp [State.setPort]

@[simp] theorem State.setPort_port (s : State) (p : PortId) : s.setPort p (s.port p) = s := by
  simp [State.setPort, State.port]

@[simp] theorem State.setPort_stream (s : State) (p j : PortId) (q : Port) : (s.setPort p q).stream j = s.stream j := rfl

/-! ### Every port changed -/

@[simp] theorem State.mapPorts_now (s : State) (f : Port → Port) : (s.mapPorts f).now = s.now := rfl

@[simp] theorem State.mapPorts_odo (s : State) (f : Port → Port) : (s.mapPorts f).odo = s.odo := rfl

@[simp] theorem State.mapPorts_intake (s : State) (f : Port → Port) : (s.mapPorts f).intake = s.intake := rfl

@[simp] theorem State.mapPorts_grid (s : State) (f : Port → Port) : (s.mapPorts f).grid = s.grid := rfl

@[simp] theorem State.mapPorts_geo (s : State) (f : Port → Port) : (s.mapPorts f).geo = s.geo := rfl

@[simp] theorem State.mapPorts_store (s : State) (f : Port → Port) : (s.mapPorts f).store = s.store := rfl

@[simp] theorem State.mapPorts_pos (s : State) (f : Port → Port) : (s.mapPorts f).pos = s.pos := rfl

@[simp] theorem State.mapPorts_cls (s : State) (f : Port → Port) : (s.mapPorts f).cls = s.cls := rfl

@[simp] theorem State.mapPorts_exm (s : State) (f : Port → Port) : (s.mapPorts f).exm = s.exm := rfl

@[simp] theorem State.mapPorts_run (s : State) (f : Port → Port) : (s.mapPorts f).run = s.run := rfl

@[simp] theorem State.mapPorts_svc (s : State) (f : Port → Port) : (s.mapPorts f).svc = s.svc := rfl

@[simp] theorem State.mapPorts_freeCount (s : State) (f : Port → Port) : (s.mapPorts f).freeCount = s.freeCount := rfl

@[simp] theorem State.mapPorts_pending (s : State) (f : Port → Port) : (s.mapPorts f).pending = s.pending := rfl

@[simp] theorem State.port_mapPorts (s : State) (f : Port → Port) (p : PortId) : (s.mapPorts f).port p = f (s.port p) := by
  cases p <;> rfl

@[simp] theorem State.mapPorts_stream (s : State) (f : Port → Port) (p : PortId) : (s.mapPorts f).stream p = s.stream p := rfl

/-! ### One stream replaced -/

@[simp] theorem setStream_now (p : PortId) (x : Option Stream) (s : State) : (setStream p x s).now = s.now := rfl

@[simp] theorem setStream_odo (p : PortId) (x : Option Stream) (s : State) : (setStream p x s).odo = s.odo := rfl

@[simp] theorem setStream_intake (p : PortId) (x : Option Stream) (s : State) : (setStream p x s).intake = s.intake := rfl

@[simp] theorem setStream_grid (p : PortId) (x : Option Stream) (s : State) : (setStream p x s).grid = s.grid := rfl

@[simp] theorem setStream_geo (p : PortId) (x : Option Stream) (s : State) : (setStream p x s).geo = s.geo := rfl

@[simp] theorem setStream_pos (p : PortId) (x : Option Stream) (s : State) : (setStream p x s).pos = s.pos := rfl

@[simp] theorem setStream_cls (p : PortId) (x : Option Stream) (s : State) : (setStream p x s).cls = s.cls := rfl

@[simp] theorem setStream_exm (p : PortId) (x : Option Stream) (s : State) : (setStream p x s).exm = s.exm := rfl

@[simp] theorem setStream_run (p : PortId) (x : Option Stream) (s : State) : (setStream p x s).run = s.run := rfl

@[simp] theorem setStream_svc (p : PortId) (x : Option Stream) (s : State) : (setStream p x s).svc = s.svc := rfl

@[simp] theorem setStream_freeCount (p : PortId) (x : Option Stream) (s : State) : (setStream p x s).freeCount = s.freeCount := rfl

@[simp] theorem setStream_pending (p : PortId) (x : Option Stream) (s : State) : (setStream p x s).pending = s.pending := rfl

@[simp] theorem setStream_ports (p : PortId) (x : Option Stream) (s : State) : (setStream p x s).ports = s.ports := rfl

@[simp] theorem setStream_store_slots (p : PortId) (x : Option Stream) (s : State) :
    (setStream p x s).store.slots = s.store.slots := rfl

@[simp] theorem setStream_store_w (p : PortId) (x : Option Stream) (s : State) :
    (setStream p x s).store.w = s.store.w := rfl

@[simp] theorem setStream_store_f (p : PortId) (x : Option Stream) (s : State) :
    (setStream p x s).store.f = s.store.f := rfl

@[simp] theorem setStream_store_c (p : PortId) (x : Option Stream) (s : State) :
    (setStream p x s).store.c = s.store.c := rfl

@[simp] theorem setStream_store_overwritten (p : PortId) (x : Option Stream) (s : State) :
    (setStream p x s).store.overwritten = s.store.overwritten := rfl

@[simp] theorem setStream_port (p j : PortId) (x : Option Stream) (s : State) : (setStream p x s).port j = s.port j := rfl

@[simp] theorem setStream_stream (p : PortId) (x : Option Stream) (s : State) : (setStream p x s).stream p = x :=
  PerPort.get_set s.store.streams p x

theorem setStream_stream_ite (j p : PortId) (x : Option Stream) (s : State) :
    (setStream p x s).stream j = if j = p then x else s.stream j := PerPort.get_set_ite s.store.streams j p x

/-! ### One source's unit changed -/

@[simp] theorem updateUnit_now (c : Source) (f : SourceUnit → SourceUnit) (s : State) :
    (updateUnit c f s).now = s.now := rfl

@[simp] theorem updateUnit_odo (c : Source) (f : SourceUnit → SourceUnit) (s : State) :
    (updateUnit c f s).odo = s.odo := rfl

@[simp] theorem updateUnit_grid (c : Source) (f : SourceUnit → SourceUnit) (s : State) :
    (updateUnit c f s).grid = s.grid := rfl

@[simp] theorem updateUnit_geo (c : Source) (f : SourceUnit → SourceUnit) (s : State) :
    (updateUnit c f s).geo = s.geo := rfl

@[simp] theorem updateUnit_store (c : Source) (f : SourceUnit → SourceUnit) (s : State) :
    (updateUnit c f s).store = s.store := rfl

@[simp] theorem updateUnit_pos (c : Source) (f : SourceUnit → SourceUnit) (s : State) :
    (updateUnit c f s).pos = s.pos := rfl

@[simp] theorem updateUnit_cls (c : Source) (f : SourceUnit → SourceUnit) (s : State) :
    (updateUnit c f s).cls = s.cls := rfl

@[simp] theorem updateUnit_exm (c : Source) (f : SourceUnit → SourceUnit) (s : State) :
    (updateUnit c f s).exm = s.exm := rfl

@[simp] theorem updateUnit_run (c : Source) (f : SourceUnit → SourceUnit) (s : State) :
    (updateUnit c f s).run = s.run := rfl

@[simp] theorem updateUnit_svc (c : Source) (f : SourceUnit → SourceUnit) (s : State) :
    (updateUnit c f s).svc = s.svc := rfl

@[simp] theorem updateUnit_freeCount (c : Source) (f : SourceUnit → SourceUnit) (s : State) :
    (updateUnit c f s).freeCount = s.freeCount := rfl

@[simp] theorem updateUnit_pending (c : Source) (f : SourceUnit → SourceUnit) (s : State) :
    (updateUnit c f s).pending = s.pending := rfl

@[simp] theorem updateUnit_ports (c : Source) (f : SourceUnit → SourceUnit) (s : State) :
    (updateUnit c f s).ports = s.ports := rfl

@[simp] theorem updateUnit_intake_queueL (c : Source) (f : SourceUnit → SourceUnit) (s : State) :
    (updateUnit c f s).intake.queueL = s.intake.queueL := rfl

@[simp] theorem updateUnit_intake_queueR (c : Source) (f : SourceUnit → SourceUnit) (s : State) :
    (updateUnit c f s).intake.queueR = s.intake.queueR := rfl

@[simp] theorem updateUnit_intake_queueI (c : Source) (f : SourceUnit → SourceUnit) (s : State) :
    (updateUnit c f s).intake.queueI = s.intake.queueI := rfl

@[simp] theorem updateUnit_intake_refTime (c : Source) (f : SourceUnit → SourceUnit) (s : State) :
    (updateUnit c f s).intake.refTime = s.intake.refTime := rfl

@[simp] theorem updateUnit_unit (c : Source) (f : SourceUnit → SourceUnit) (s : State) :
    (updateUnit c f s).unit c = f (s.unit c) := PerSource.get_set s.intake.units c _

theorem updateUnit_unit_of_ne {j c : Source} (f : SourceUnit → SourceUnit) (s : State) (h : j ≠ c) :
    (updateUnit c f s).unit j = s.unit j := PerSource.get_set_of_ne s.intake.units _ h

@[simp] theorem updateUnit_port (c : Source) (f : SourceUnit → SourceUnit) (s : State) (p : PortId) :
    (updateUnit c f s).port p = s.port p := rfl

/-! ### A write into a slot -/

@[simp] theorem writePoint_now (k : Nat) (f : PointRec → PointRec) (s : State) : (writePoint k f s).now = s.now := rfl

@[simp] theorem writePoint_odo (k : Nat) (f : PointRec → PointRec) (s : State) : (writePoint k f s).odo = s.odo := rfl

@[simp] theorem writePoint_intake (k : Nat) (f : PointRec → PointRec) (s : State) : (writePoint k f s).intake = s.intake := rfl

@[simp] theorem writePoint_grid (k : Nat) (f : PointRec → PointRec) (s : State) : (writePoint k f s).grid = s.grid := rfl

@[simp] theorem writePoint_geo (k : Nat) (f : PointRec → PointRec) (s : State) : (writePoint k f s).geo = s.geo := rfl

@[simp] theorem writePoint_pos (k : Nat) (f : PointRec → PointRec) (s : State) : (writePoint k f s).pos = s.pos := rfl

@[simp] theorem writePoint_cls (k : Nat) (f : PointRec → PointRec) (s : State) : (writePoint k f s).cls = s.cls := rfl

@[simp] theorem writePoint_exm (k : Nat) (f : PointRec → PointRec) (s : State) : (writePoint k f s).exm = s.exm := rfl

@[simp] theorem writePoint_run (k : Nat) (f : PointRec → PointRec) (s : State) : (writePoint k f s).run = s.run := rfl

@[simp] theorem writePoint_svc (k : Nat) (f : PointRec → PointRec) (s : State) : (writePoint k f s).svc = s.svc := rfl

@[simp] theorem writePoint_freeCount (k : Nat) (f : PointRec → PointRec) (s : State) : (writePoint k f s).freeCount = s.freeCount := rfl

@[simp] theorem writePoint_pending (k : Nat) (f : PointRec → PointRec) (s : State) : (writePoint k f s).pending = s.pending := rfl

@[simp] theorem writePoint_ports (k : Nat) (f : PointRec → PointRec) (s : State) : (writePoint k f s).ports = s.ports := rfl

@[simp] theorem Store.write_w (st : Store) (k : Nat) (f : PointRec → PointRec) : (st.write k f).w = st.w := by
  unfold Store.write; split <;> rfl

@[simp] theorem writePoint_store_w (k : Nat) (f : PointRec → PointRec) (s : State) :
    (writePoint k f s).store.w = s.store.w := Store.write_w s.store k f

@[simp] theorem Store.write_f (st : Store) (k : Nat) (f : PointRec → PointRec) : (st.write k f).f = st.f := by
  unfold Store.write; split <;> rfl

@[simp] theorem writePoint_store_f (k : Nat) (f : PointRec → PointRec) (s : State) :
    (writePoint k f s).store.f = s.store.f := Store.write_f s.store k f

@[simp] theorem Store.write_c (st : Store) (k : Nat) (f : PointRec → PointRec) : (st.write k f).c = st.c := by
  unfold Store.write; split <;> rfl

@[simp] theorem writePoint_store_c (k : Nat) (f : PointRec → PointRec) (s : State) :
    (writePoint k f s).store.c = s.store.c := Store.write_c s.store k f

@[simp] theorem Store.write_overwritten (st : Store) (k : Nat) (f : PointRec → PointRec) : (st.write k f).overwritten = st.overwritten := by
  unfold Store.write; split <;> rfl

@[simp] theorem writePoint_store_overwritten (k : Nat) (f : PointRec → PointRec) (s : State) :
    (writePoint k f s).store.overwritten = s.store.overwritten := Store.write_overwritten s.store k f

@[simp] theorem Store.write_streams (st : Store) (k : Nat) (f : PointRec → PointRec) : (st.write k f).streams = st.streams := by
  unfold Store.write; split <;> rfl

@[simp] theorem writePoint_store_streams (k : Nat) (f : PointRec → PointRec) (s : State) :
    (writePoint k f s).store.streams = s.store.streams := Store.write_streams s.store k f

@[simp] theorem writePoint_stream (k : Nat) (f : PointRec → PointRec) (s : State) (p : PortId) :
    (writePoint k f s).stream p = s.stream p := by simp [State.stream]

@[simp] theorem writePoint_port (k : Nat) (f : PointRec → PointRec) (s : State) (p : PortId) :
    (writePoint k f s).port p = s.port p := rfl

end Sys2Proof.Machine
end

