-- ==== Sys2Proof/Laws/Keeps.lean ====
section
/-!
SUPPORT. What the chain of events inside a command leaves alone. `Keeps` is for every event of the measurement chain
(ODO to STORE and the notices they raise): no time passes, and no setting, table, authority or port state changes.
`Calm` adds what the part of the chain from GRID on leaves alone in ODO, INTAKE and POS.
-/

namespace Sys2Proof.Machine

/-- The parts of a port that notices and queued answers do not touch, and its notice queue, which can only grow at its
end (R205). -/
structure PortKeeps (q r : Port) : Prop where
  state : r.state = q.state
  inbox : r.inbox = q.inbox
  txSeq : r.txSeq = q.txSeq
  rxSeq : r.rxSeq = q.rxSeq
  presenceAt : r.presenceAt = q.presenceAt
  badRun : r.badRun = q.badRun
  options : r.options = q.options
  sending : r.sending = q.sending
  badFrames : r.badFrames = q.badFrames
  correctedHeaders : r.correctedHeaders = q.correctedHeaders
  sequenceGaps : r.sequenceGaps = q.sequenceGaps
  inboxDrops : r.inboxDrops = q.inboxDrops
  presenceTimeouts : r.presenceTimeouts = q.presenceTimeouts
  bars : r.bars = q.bars
  barredDrops : r.barredDrops = q.barredDrops
  notices : q.notices <+: r.notices

theorem PortKeeps.refl (q : Port) : PortKeeps q q := by constructor <;> rfl

theorem PortKeeps.trans {a b c : Port} (h : PortKeeps a b) (k : PortKeeps b c) : PortKeeps a c :=
  ⟨k.1.trans h.1, k.2.trans h.2, k.3.trans h.3, k.4.trans h.4, k.5.trans h.5, k.6.trans h.6, k.7.trans h.7,
    k.8.trans h.8, k.9.trans h.9, k.10.trans h.10, k.11.trans h.11, k.12.trans h.12, k.13.trans h.13,
    k.14.trans h.14, k.15.trans h.15, h.16.trans k.16⟩

/-- What no event of the measurement chain changes. -/
structure Keeps (s t : State) : Prop where
  now : t.now = s.now
  freeCount : t.freeCount = s.freeCount
  pending : t.pending = s.pending
  svc : t.svc = s.svc
  settings : t.run.settings = s.run.settings
  number : t.run.number = s.run.number
  record : t.run.record = s.run.record
  loadCount : t.run.loadCount = s.run.loadCount
  sections : t.cls.sections = s.cls.sections
  thresholds : t.cls.thresholds = s.cls.thresholds
  editCount : t.cls.editCount = s.cls.editCount
  loads : t.cls.loads = s.cls.loads
  markers : t.pos.markers = s.pos.markers
  base : t.pos.base = s.pos.base
  sense : t.pos.sense = s.pos.sense
  direction : t.odo.direction = s.odo.direction
  ports : ∀ p, PortKeeps (s.port p) (t.port p)

theorem Keeps.refl (s : State) : Keeps s s := by
  constructor <;> first | rfl | exact fun p => PortKeeps.refl _

theorem Keeps.trans {a b c : State} (h : Keeps a b) (k : Keeps b c) : Keeps a c :=
  ⟨k.1.trans h.1, k.2.trans h.2, k.3.trans h.3, k.4.trans h.4, k.5.trans h.5, k.6.trans h.6, k.7.trans h.7,
    k.8.trans h.8, k.9.trans h.9, k.10.trans h.10, k.11.trans h.11, k.12.trans h.12, k.13.trans h.13,
    k.14.trans h.14, k.15.trans h.15, k.16.trans h.16, fun p => (h.17 p).trans (k.17 p)⟩

/-- `Keeps.trans` with the later event first, which the goal names. -/
theorem Keeps.after {a b c : State} (k : Keeps b c) (h : Keeps a b) : Keeps a c := h.trans k

/-- What no event from GRID on changes. -/
structure Calm (s t : State) : Prop where
  keeps : Keeps s t
  odo : { t.odo with window := none } = { s.odo with window := none }
  units : t.intake.units = s.intake.units
  pos : t.pos = s.pos

theorem Calm.refl (s : State) : Calm s s := ⟨Keeps.refl s, rfl, rfl, rfl⟩

theorem Calm.trans {a b c : State} (h : Calm a b) (k : Calm b c) : Calm a c :=
  ⟨h.1.trans k.1, k.2.trans h.2, k.3.trans h.3, k.4.trans h.4⟩

/-- A fold of events that are each calm is calm. -/
theorem Calm.foldl {α : Type} {f : State → α → State} (h : ∀ s x, Calm s (f s x)) (l : List α) (s : State) :
    Calm s (l.foldl f s) := by
  induction l generalizing s with
  | nil => exact Calm.refl s
  | cons x l ih => exact (h s x).trans (ih (f s x))

/-- A fold of events that each keep is one that keeps. -/
theorem Keeps.foldl {α : Type} {f : State → α → State} (h : ∀ s x, Keeps s (f s x)) (l : List α) (s : State) :
    Keeps s (l.foldl f s) := by
  induction l generalizing s with
  | nil => exact Keeps.refl s
  | cons x l ih => exact (h s x).trans (ih (f s x))

/-! ### Notices and answers -/

theorem Port.setError_keeps (q : Port) (e : LinkError) : PortKeeps q (q.setError e) := by
  constructor <;> rfl

theorem Port.attend_keeps (q : Port) (c : NoticeClass) : PortKeeps q (q.attend c) := by
  unfold Port.attend; split
  · constructor <;> rfl
  · exact PortKeeps.refl q

theorem Port.enqueue_keeps (q : Port) (n : Notice) : PortKeeps q (q.enqueue n) := by
  unfold Port.enqueue; split <;> constructor <;> first | rfl | exact List.prefix_append _ _

theorem Port.offer_keeps (q : Port) (n : Notice) : PortKeeps q (q.offer n) := by
  unfold Port.offer; split
  · exact (Port.attend_keeps q n.cls).trans (Port.enqueue_keeps _ n)
  · exact PortKeeps.refl q

/-- One port replaced by one that agrees with it on what `PortKeeps` names. -/
theorem setPort_calm {s : State} {p : PortId} {q : Port} (h : PortKeeps (s.port p) q) : Calm s (s.setPort p q) := by
  refine ⟨⟨rfl, rfl, rfl, rfl, rfl, rfl, rfl, rfl, rfl, rfl, rfl, rfl, rfl, rfl, rfl, rfl, fun j => ?_⟩, rfl, rfl, rfl⟩
  rw [State.port_setPort_ite]
  split
  · next e => subst e; exact h
  · exact PortKeeps.refl _

theorem offerTo_calm (p : PortId) (n : Notice) (s : State) : Calm s (offerTo p n s) :=
  setPort_calm (Port.offer_keeps _ n)

theorem offerAll_calm (sel : Port → Bool) (c : NoticeClass) (w : List Word) (s : State) :
    Calm s (offerAll sel c w s) := by
  refine ⟨⟨rfl, rfl, rfl, rfl, rfl, rfl, rfl, rfl, rfl, rfl, rfl, rfl, rfl, rfl, rfl, rfl, fun j => ?_⟩, rfl, rfl, rfl⟩
  rw [offerAll, State.port_mapPorts]
  split
  · exact Port.offer_keeps _ _
  · exact PortKeeps.refl _

theorem answer_calm (p : PortId) (a : Answer) (s : State) : Calm s (answer p a s) :=
  setPort_calm (by constructor <;> rfl)

theorem reply_calm (p : PortId) (tag : Byte) (w : List Word) (s : State) : Calm s (reply p tag w s) :=
  answer_calm p _ s

theorem refuse_calm (p : PortId) (k tag : Byte) (r : Reason) (n : Nat) (s : State) : Calm s (refuse p k tag r n s) :=
  answer_calm p _ s

theorem setInService_calm (p : PortId) (w : Option InService) (s : State) : Calm s (setInService p w s) :=
  setPort_calm (by constructor <;> rfl)

theorem releaseReservation_calm (p : PortId) (s : State) : Calm s (releaseReservation p s) :=
  setPort_calm (by constructor <;> rfl)

/-! ### STORE -/

/-- A change of the store alone. -/
theorem store_calm (s : State) (x : Store) : Calm s { s with store := x } :=
  ⟨⟨rfl, rfl, rfl, rfl, rfl, rfl, rfl, rfl, rfl, rfl, rfl, rfl, rfl, rfl, rfl, rfl, fun _ => PortKeeps.refl _⟩, rfl,
    rfl, rfl⟩

theorem setStream_calm (p : PortId) (x : Option Stream) (s : State) : Calm s (setStream p x s) := store_calm s _

theorem writePoint_calm (k : Nat) (f : PointRec → PointRec) (s : State) : Calm s (writePoint k f s) := store_calm s _

theorem endStream_calm (p : PortId) (why : StreamEnd) (s : State) : Calm s (endStream p why s) := by
  unfold endStream; split
  · exact (setStream_calm p none s).trans (offerTo_calm p _ _)
  · exact Calm.refl s

theorem runOverTest_calm (p : PortId) (s : State) : Calm s (runOverTest p s) := by
  unfold runOverTest; split
  · split
    · exact endStream_calm p _ s
    · exact Calm.refl s
  · exact Calm.refl s

theorem afterPoints_calm (p : PortId) (s : State) : Calm s (afterPoints p s) := by
  unfold afterPoints; split
  · split
    · exact endStream_calm p _ s
    · exact runOverTest_calm p s
  · exact Calm.refl s

theorem buildPoints_calm (n : Nat) (p : PortId) (s : State) : Calm s (buildPoints n p s) := by
  induction n generalizing s with
  | zero => exact Calm.refl s
  | succ n ih =>
    unfold buildPoints; split
    · dsimp only; split
      · exact Calm.refl s
      · exact (((offerTo_calm p _ s).trans (setStream_calm p _ _)).trans (afterPoints_calm p _)).trans (ih _)
    · exact Calm.refl s

theorem streamBuild_calm (p : PortId) (s : State) : Calm s (streamBuild p s) := buildPoints_calm _ p s

theorem streamBuildAll_calm (s : State) : Calm s (streamBuildAll s) :=
  Calm.foldl (fun t p => streamBuild_calm p t) _ s

theorem reportGap_calm (p : PortId) (st : Stream) (n : Nat) (s : State) : Calm s (reportGap p st n s) :=
  (offerTo_calm p _ s).trans (setStream_calm p _ _)

theorem gapTest_calm (p : PortId) (s : State) : Calm s (gapTest p s) := by
  unfold gapTest; split
  · split
    · split
      · split
        · exact (reportGap_calm p _ _ s).trans (endStream_calm p _ _)
        · exact (reportGap_calm p _ _ s).trans (streamBuild_calm p _)
      · exact (reportGap_calm p _ _ s).trans (streamBuild_calm p _)
    · exact Calm.refl s
  · exact Calm.refl s

theorem openSlot_calm (x : PointRec) (s : State) : Calm s (openSlot x s) :=
  (store_calm s _).trans (Calm.foldl (fun t p => gapTest_calm p t) _ _)

/-! ### EXM -/

/-- A change of EXM alone. -/
theorem exm_calm (s : State) (e : Exm) : Calm s { s with exm := e } :=
  ⟨⟨rfl, rfl, rfl, rfl, rfl, rfl, rfl, rfl, rfl, rfl, rfl, rfl, rfl, rfl, rfl, rfl, fun _ => PortKeeps.refl _⟩, rfl,
    rfl, rfl⟩

theorem setGroup_calm (p : Param) (g : Group) (s : State) : Calm s (setGroup p g s) := exm_calm s _

theorem announceUrgent_calm (r : ExcRecord) (s : State) : Calm s (announceUrgent r s) :=
  (exm_calm s _).trans (offerAll_calm _ _ _ _)

theorem closeRecord_calm (p : Param) (why : CloseReason) (i : Nat) (c : Int) (s : State) :
    Calm s (closeRecord p why i c s) := by
  unfold closeRecord; dsimp only; split
  · exact Calm.refl s
  · split
    · exact (exm_calm s _).trans (offerAll_calm _ _ _ _)
    · exact exm_calm s _

theorem closeAtLast_calm (p : Param) (why : CloseReason) (s : State) : Calm s (closeAtLast p why s) := by
  unfold closeAtLast; split
  · exact closeRecord_calm p why _ _ s
  · exact Calm.refl s

theorem openRecord_calm (p : Param) (l : Nat) (d : Side) (v : Int) (at' : PointPlace) (s : State) :
    Calm s (openRecord p l d v at' s) := by
  unfold openRecord; dsimp only; split
  · exact exm_calm s _
  · split
    · exact (exm_calm s _).trans (announceUrgent_calm _ _)
    · exact exm_calm s _

theorem extendRecord_calm (p : Param) (o : OpenGroup) (l : Nat) (v : Int) (at' : PointPlace) (s : State) :
    Calm s (extendRecord p o l v at' s) := by
  unfold extendRecord; dsimp only; split
  · exact exm_calm s _
  · split
    · split
      · exact ((exm_calm s _).trans (announceUrgent_calm _ _)).trans (closeRecord_calm p _ _ _ _)
      · exact (exm_calm s _).trans (closeRecord_calm p _ _ _ _)
    · split
      · exact (exm_calm s _).trans (announceUrgent_calm _ _)
      · exact exm_calm s _

theorem bridge_calm (p : Param) (s : State) : Calm s (bridge p s) := by
  unfold bridge; dsimp only; split
  · exact Calm.refl s
  · split
    · exact (setGroup_calm p _ s).trans (closeAtLast_calm p _ _)
    · exact setGroup_calm p _ s

theorem applyOutcome_calm (p : Param) (o : ParamOutcome) (v : Int) (at' : PointPlace) (s : State) :
    Calm s (applyOutcome p o v at' s) := by
  unfold applyOutcome; split
  · exact closeAtLast_calm p _ s
  · exact closeAtLast_calm p _ s
  · exact bridge_calm p s
  · split
    · exact openRecord_calm p _ _ v at' s
    · split
      · exact extendRecord_calm p _ _ v at' s
      · exact (closeAtLast_calm p _ s).trans (openRecord_calm p _ _ v at' _)

/-- The lookup counters alone change. -/
theorem counted_calm (s : State) (c : Int) : Calm s { s with cls := s.cls.counted c } := by
  unfold Cls.counted; split <;>
  exact ⟨⟨rfl, rfl, rfl, rfl, rfl, rfl, rfl, rfl, rfl, rfl, rfl, rfl, rfl, rfl, rfl, rfl, fun _ => PortKeeps.refl _⟩,
    rfl, rfl, rfl⟩

theorem judgeHeld_calm (x : PointRec) (s : State) : Calm s (judgeHeld x s) := by
  unfold judgeHeld; dsimp only
  exact (((counted_calm s _).trans (Calm.foldl (fun t p => applyOutcome_calm p _ _ _ t) _ _)).trans
    (writePoint_calm _ _ _)).trans (exm_calm _ _)

theorem judgeLost_calm (s : State) : Calm s (judgeLost s) := by
  unfold judgeLost; dsimp only
  exact (Calm.foldl (fun t p => closeAtLast_calm p _ t) _ s).trans (exm_calm _ _)

theorem closeAllRunEnd_calm (s : State) : Calm s (closeAllRunEnd s) :=
  Calm.foldl (fun t p => closeAtLast_calm p _ t) _ s

/-! ### GEO -/

/-- A change of GEO alone. -/
theorem geo_calm (s : State) (g : Geo) : Calm s { s with geo := g } :=
  ⟨⟨rfl, rfl, rfl, rfl, rfl, rfl, rfl, rfl, rfl, rfl, rfl, rfl, rfl, rfl, rfl, rfl, fun _ => PortKeeps.refl _⟩, rfl,
    rfl, rfl⟩

theorem writeParam_calm (k : Nat) (p : Param) (x : Limited) (s : State) : Calm s (writeParam k p x s) := by
  unfold writeParam; dsimp only; split
  · exact (writePoint_calm k _ s).trans (geo_calm _ _)
  · exact writePoint_calm k _ s

theorem writeVersines_calm (l : List VersineKind) (k m : Nat) (s : State) : Calm s (writeVersines l k m s) := by
  unfold writeVersines; split
  · exact Calm.refl s
  · exact Calm.foldl (fun t v => writeParam_calm _ _ _ t) l s

theorem completePoint_calm (j : Nat) (s : State) : Calm s (completePoint j s) := by
  unfold completePoint; dsimp only; split
  · exact (((judgeHeld_calm _ s).trans (writePoint_calm _ _ _)).trans (store_calm _ _)).trans (streamBuildAll_calm _)
  · exact (((store_calm s _).trans (judgeLost_calm _)).trans (store_calm _ _)).trans (streamBuildAll_calm _)

theorem geoClassify_calm (rp : RawPoint) (s : State) : Calm s (geoClassify rp s) :=
  (geo_calm s _).trans (writePoint_calm _ _ _)

theorem geoPoint_calm (rp : RawPoint) (low : Bool) (s : State) : Calm s (geoPoint rp low s) := by
  unfold geoPoint; dsimp only
  exact ((((writeParam_calm _ _ _ s).trans (writeParam_calm _ _ _ _)).trans (geo_calm _ _)).trans
    (writeParam_calm _ _ _ _)).trans (writeParam_calm _ _ _ _)

theorem geoRawPoint_calm (rp : RawPoint) (s : State) : Calm s (geoRawPoint rp s) := by
  unfold geoRawPoint; dsimp only
  have h : Calm s (writeVersines alignKinds rp.index s.run.settings.alignHalf
      (writeVersines levelKinds rp.index s.run.settings.levelHalf
        (geoPoint rp (isLowSpeed s.run.settings.vMin s.geo.low rp.speed) (geoClassify rp s)))) :=
    (((geoClassify_calm rp s).trans (geoPoint_calm rp _ _)).trans (writeVersines_calm _ _ _ _)).trans
      (writeVersines_calm _ _ _ _)
  split
  · exact h
  · exact h.trans (completePoint_calm _ _)

theorem voidVersines_calm (l : List VersineKind) (j m w : Nat) (s : State) : Calm s (voidVersines l j m w s) := by
  unfold voidVersines; split
  · exact Calm.foldl (fun t v => writeParam_calm _ _ _ t) l s
  · exact Calm.refl s

theorem completeTail_calm (w j : Nat) (s : State) : Calm s (completeTail w j s) :=
  (((voidVersines_calm _ _ _ _ s).trans (voidVersines_calm _ _ _ _ _)).trans (writePoint_calm _ _ _)).trans
    (completePoint_calm _ _)

theorem completeTailAll_calm (s : State) : Calm s (completeTailAll s) := by
  unfold completeTailAll; dsimp only
  refine Calm.trans ?_ (geo_calm _ _)
  split
  · exact Calm.foldl (fun t i => completeTail_calm _ _ t) _ s
  · exact Calm.refl s

/-! ### RUN and GRID -/

theorem runNotice_calm (cause : RunCause) (s : State) : Calm s (runNotice cause s) := offerAll_calm _ _ _ s

/-- A change of the run state and of the pending END_RUN alone. -/
theorem runState_calm (s : State) (st : RunState) (e : Option (PortId × Byte)) :
    Calm s { s with run := { s.run with state := st, pendingEnd := e } } :=
  ⟨⟨rfl, rfl, rfl, rfl, rfl, rfl, rfl, rfl, rfl, rfl, rfl, rfl, rfl, rfl, rfl, rfl, fun _ => PortKeeps.refl _⟩, rfl,
    rfl, rfl⟩

theorem answerEndRun_calm (s : State) : Calm s (answerEndRun s) := by
  unfold answerEndRun; split
  · exact ((reply_calm _ _ _ s).trans (setInService_calm _ _ _)).trans (runState_calm _ _ _)
  · exact Calm.refl s

theorem setStage_calm (stage : RunStage) (s : State) : Calm s (setStage stage s) := runState_calm s _ _

/-- A change of GRID alone. -/
theorem grid_calm (s : State) (g : Grid) : Calm s { s with grid := g } :=
  ⟨⟨rfl, rfl, rfl, rfl, rfl, rfl, rfl, rfl, rfl, rfl, rfl, rfl, rfl, rfl, rfl, rfl, fun _ => PortKeeps.refl _⟩, rfl,
    rfl, rfl⟩

theorem becomeIdle_calm (s : State) : Calm s (becomeIdle s) := by
  unfold becomeIdle; dsimp only
  refine Calm.trans (b := { s with
      run := { s.run with state := .idle }, odo := { s.odo with window := none },
      grid := { s.grid with waiting := [], deadline := none }, intake := { s.intake with refTime := none } }) ?_ ?_
  · exact ⟨⟨rfl, rfl, rfl, rfl, rfl, rfl, rfl, rfl, rfl, rfl, rfl, rfl, rfl, rfl, rfl, rfl,
      fun _ => PortKeeps.refl _⟩, rfl, rfl, rfl⟩
  · exact ((Calm.foldl (fun t p => runOverTest_calm p t) _ _).trans (runNotice_calm _ _)).trans (answerEndRun_calm _)

theorem finishRun_calm (s : State) : Calm s (finishRun s) := by
  unfold finishRun; dsimp only
  exact (((((grid_calm s _).trans (setStage_calm _ _)).trans (completeTailAll_calm _)).trans (setStage_calm _ _)).trans
    (closeAllRunEnd_calm _)).trans (becomeIdle_calm _)

theorem formPoint_calm (c : CreatedPoint) (rest : List CreatedPoint) (s : State) : Calm s (formPoint c rest s) := by
  unfold formPoint; dsimp only
  refine Calm.trans ?_ (geoRawPoint_calm _ _)
  exact ⟨⟨rfl, rfl, rfl, rfl, rfl, rfl, rfl, rfl, rfl, rfl, rfl, rfl, rfl, rfl, rfl, rfl, fun _ => PortKeeps.refl _⟩,
    rfl, rfl, rfl⟩

theorem formWhile_calm (n : Nat) (s : State) : Calm s (formWhile n s) := by
  induction n generalizing s with
  | zero => exact Calm.refl s
  | succ n ih =>
    unfold formWhile; split
    · split
      · exact (formPoint_calm _ _ s).trans (ih _)
      · exact Calm.refl s
    · exact Calm.refl s

theorem finishTest_calm (s : State) : Calm s (finishTest s) := by
  unfold finishTest; split
  · exact finishRun_calm s
  · exact Calm.refl s

theorem examine_calm (s : State) : Calm s (examine s) := by
  unfold examine; split
  · exact Calm.refl s
  · exact (formWhile_calm _ s).trans (finishTest_calm _)

theorem awaitPoint_calm (c : CreatedPoint) (s : State) : Calm s (awaitPoint c s) := by
  unfold awaitPoint; split
  · exact (grid_calm s _).trans (examine_calm _)
  · exact grid_calm s _

theorem alignDeadline_calm (s : State) : Calm s (alignDeadline s) := by
  unfold alignDeadline; split
  · exact examine_calm s
  · exact Calm.refl s

/-! ### ODO and POS -/

/-- A change of ODO, of POS and of the sources that leaves the survey direction, the marker table, the base and the
sense. -/
theorem front_keeps (s : State) (o : Odo) (i : Intake) (ps : Pos) (hd : o.direction = s.odo.direction)
    (hm : ps.markers = s.pos.markers) (hb : ps.base = s.pos.base) (hs : ps.sense = s.pos.sense) :
    Keeps s { s with odo := o, intake := i, pos := ps } :=
  ⟨rfl, rfl, rfl, rfl, rfl, rfl, rfl, rfl, rfl, rfl, rfl, rfl, hm, hb, hs, hd, fun _ => PortKeeps.refl _⟩

theorem odo_keeps (s : State) (o : Odo) (hd : o.direction = s.odo.direction) : Keeps s { s with odo := o } :=
  front_keeps s o s.intake s.pos hd rfl rfl rfl

/-- A change of POS that leaves its marker table, base and sense. -/
theorem pos_keeps (s : State) (ps : Pos) (hm : ps.markers = s.pos.markers) (hb : ps.base = s.pos.base)
    (hs : ps.sense = s.pos.sense) : Keeps s { s with pos := ps } :=
  front_keeps s s.odo s.intake ps rfl hm hb hs

/-- Either of two keeping states keeps. -/
theorem ite_keeps {s t u : State} {c : Prop} [Decidable c] (ht : Keeps s t) (hu : Keeps s u) :
    Keeps s (if c then t else u) := by split <;> assumption

theorem createPoint_keeps (k crossing speed : Nat) (s : State) : Keeps s (createPoint k crossing speed s) := by
  unfold createPoint; dsimp only
  refine (awaitPoint_calm _ _).keeps.after ((openSlot_calm _ _).keeps.after ?_)
  exact front_keeps s _ s.intake _ rfl rfl rfl rfl

theorem createPoints_keeps (f : Nat → Nat) (n k : Nat) (s : State) : Keeps s (createPoints f n k s) := by
  induction n generalizing k s with
  | zero => exact Keeps.refl s
  | succ n ih => exact (ih _ _).after (createPoint_keeps _ _ _ s)

theorem odometryNotice_calm (cause : Nat) (s : State) : Calm s (odometryNotice cause s) := offerAll_calm _ _ _ s

theorem locationNotice_calm (cause : LocCause) (m : Option MarkerFields) (e d : Int) (t : Nat) (s : State) :
    Calm s (locationNotice cause m e d t s) := offerAll_calm _ _ _ s

theorem backtrackTest_keeps (sPrev : Int) (s : State) : Keeps s (backtrackTest sPrev s) := by
  unfold backtrackTest; dsimp only
  refine ite_keeps (ite_keeps ?_ (Keeps.refl s)) (ite_keeps ?_ (Keeps.refl s))
  all_goals
    refine (odometryNotice_calm _ _).keeps.after ?_
    exact odo_keeps s _ rfl

theorem sEvent_keeps (corr : Bool) (stamp : Nat) (step : Int) (s : State) : Keeps s (sEvent corr stamp step s) := by
  unfold sEvent; dsimp only
  generalize h1 : backtrackTest _ _ = s1
  have k1 : Keeps s s1 := by
    subst h1; refine (backtrackTest_keeps _ _).after ?_; exact odo_keeps s _ rfl
  refine ite_keeps ((createPoints_keeps _ _ _ _).after (k1.trans ?_)) (k1.trans ?_) <;> exact odo_keeps s1 _ rfl

theorem reportFault_keeps (s : State) : Keeps s (reportFault s) := by
  unfold reportFault
  refine ite_keeps (Keeps.refl s) ((locationNotice_calm _ _ _ _ _ _).keeps.after ?_)
  exact pos_keeps s _ rfl rfl rfl

theorem closeAgreeing_keeps (s : State) : Keeps s (closeAgreeing s) := by
  unfold closeAgreeing; dsimp only
  refine ite_keeps ((odometryNotice_calm _ _).keeps.after ?_) ?_ <;> exact odo_keeps s _ rfl

theorem enterSlide_keeps (s : State) : Keeps s (enterSlide s) := by
  unfold enterSlide; dsimp only
  have k1 : Keeps s { s with odo := s.odo.disagreed } := odo_keeps s _ rfl
  have k2 : Keeps s (if s.odo.disagreed.state ≠ s.odo.state then odometryNotice 0 { s with odo := s.odo.disagreed }
      else { s with odo := s.odo.disagreed }) := ite_keeps ((odometryNotice_calm _ _).keeps.after k1) k1
  exact ite_keeps ((reportFault_keeps _).after k2) k2

theorem correctSlide_keeps (w : Window) (stamp : Nat) (s : State) : Keeps s (correctSlide w stamp s) := by
  unfold correctSlide; dsimp only
  generalize h : sEvent true stamp _ s = s1
  have k : Keeps s s1 := by subst h; exact sEvent_keeps _ _ _ s
  exact ite_keeps (k.trans (odo_keeps s1 _ rfl)) (Keeps.refl s)

theorem closeDisagreeing_keeps (w : Window) (stamp : Nat) (s : State) : Keeps s (closeDisagreeing w stamp s) :=
  (correctSlide_keeps w stamp _).after (enterSlide_keeps s)

theorem windowTest_keeps (stamp : Nat) (s : State) : Keeps s (windowTest stamp s) := by
  unfold windowTest; split
  · dsimp only
    refine ite_keeps (ite_keeps ?_ (ite_keeps ((closeAgreeing_keeps _).after ?_)
      ((closeDisagreeing_keeps _ _ _).after ?_))) (Keeps.refl s) <;> exact odo_keeps s _ rfl
  · exact Keeps.refl s

theorem takePulse_keeps (c : Channel) (stamp : Nat) (fwd : Bool) (s : State) : Keeps s (takePulse c stamp fwd s) := by
  unfold takePulse; dsimp only
  refine (windowTest_keeps _ _).after (ite_keeps ((sEvent_keeps _ _ _ _).after ?_) ?_) <;> exact odo_keeps s _ rfl

theorem pulse_keeps (c : Channel) (stamp : Nat) (fwd : Bool) (s : State) : Keeps s (pulse c stamp fwd s) := by
  unfold pulse
  exact ite_keeps (Keeps.refl s) (ite_keeps (Keeps.refl s) (takePulse_keeps c stamp fwd s))

theorem validateEdge_keeps (l : TachLine) (t : Nat) (s : State) : Keeps s (validateEdge l t s) := by
  unfold validateEdge; dsimp only; split
  · refine ite_keeps ((pulse_keeps _ _ _ _).after ?_) ?_ <;> exact odo_keeps s _ rfl
  · exact odo_keeps s _ rfl

theorem takeEdge_keeps (l : TachLine) (s : State) : Keeps s (takeEdge l s) := by
  unfold takeEdge; dsimp only; split
  · exact ite_keeps (validateEdge_keeps l _ s) (Keeps.refl s)
  · exact Keeps.refl s

theorem takeDueEdges_keeps (s : State) : Keeps s (takeDueEdges s) := by
  unfold takeDueEdges
  refine Keeps.foldl (fun t _ => ?_) _ s
  split
  · exact takeEdge_keeps _ t
  · exact Keeps.refl t

theorem rawChange_keeps (l : TachLine) (level : Bool) (s : State) : Keeps s (rawChange l level s) := by
  unfold rawChange; dsimp only
  generalize h0 : (if (s.odo.lines.get l).due s.run.settings.glitchUs s.now = true then takeDueEdges s else s) = s0
  have k0 : Keeps s s0 := by subst h0; exact ite_keeps (takeDueEdges_keeps s) (Keeps.refl s)
  exact ite_keeps k0 (k0.trans (odo_keeps s0 _ rfl))

theorem spacingStart_keeps (s : State) : Keeps s (spacingStart s) := by
  unfold spacingStart; dsimp only; exact ite_keeps (odo_keeps s _ rfl) (Keeps.refl s)

theorem spacingEnd_keeps (s : State) : Keeps s (spacingEnd s) := by
  unfold spacingEnd; dsimp only; exact ite_keeps (odo_keeps s _ rfl) (Keeps.refl s)

theorem acceptFix_keeps (f : MarkerFields) (e d : Int) (t : Nat) (s : State) : Keeps s (acceptFix f e d t s) := by
  unfold acceptFix; dsimp only
  refine ite_keeps ((locationNotice_calm _ _ _ _ _ _).keeps.after ?_) ?_ <;> exact pos_keeps s _ rfl rfl rfl

theorem rebaseOn_keeps (f : MarkerFields) (e d : Int) (t : Nat) (s : State) : Keeps s (rebaseOn f e d t s) := by
  unfold rebaseOn; dsimp only
  refine ite_keeps ((locationNotice_calm _ _ _ _ _ _).keeps.after ?_) ?_ <;> exact pos_keeps s _ rfl rfl rfl

theorem countMismatch_keeps (f : MarkerFields) (e d : Int) (t : Nat) (s : State) :
    Keeps s (countMismatch f e d t s) := by
  unfold countMismatch; dsimp only
  generalize h1 : locationNotice .mismatch _ _ _ _ _ = s1
  have k1 : Keeps s s1 := by
    subst h1; refine (locationNotice_calm _ _ _ _ _ _).keeps.after ?_; exact pos_keeps s _ rfl rfl rfl
  exact ite_keeps ((locationNotice_calm _ _ _ _ _ _).keeps.after (k1.trans (pos_keeps s1 _ rfl rfl rfl))) k1

theorem judgeRead_keeps (ident : Nat) (m d : Int) (t : Nat) (s : State) : Keeps s (judgeRead ident m d t s) := by
  unfold judgeRead; dsimp only; split
  · exact ite_keeps (acceptFix_keeps _ _ _ _ s) (countMismatch_keeps _ _ _ _ s)
  · exact rebaseOn_keeps _ _ _ _ s
  · exact rebaseOn_keeps _ _ _ _ s

theorem takeMarkerRead_keeps (ident stamp : Nat) (d : Int) (s : State) :
    Keeps s (takeMarkerRead ident stamp d s) := by
  unfold takeMarkerRead; dsimp only
  refine ite_keeps ?_ (ite_keeps ?_ ?_)
  · exact pos_keeps s _ rfl rfl rfl
  · exact pos_keeps s _ rfl rfl rfl
  · split
    · exact pos_keeps s _ rfl rfl rfl
    · refine ite_keeps ?_ (judgeRead_keeps _ _ _ _ s)
      exact pos_keeps s _ rfl rfl rfl

/-! ### INTAKE -/

/-- A change of INTAKE alone. -/
theorem intake_keeps (s : State) (i : Intake) : Keeps s { s with intake := i } :=
  front_keeps s s.odo i s.pos rfl rfl rfl rfl

theorem updateUnit_keeps (c : Source) (f : SourceUnit → SourceUnit) (s : State) : Keeps s (updateUnit c f s) :=
  intake_keeps s _

theorem changeSource_keeps (c : Source) (after : SourceState) (s : State) : Keeps s (changeSource c after s) :=
  (offerAll_calm _ _ _ _).keeps.after (updateUnit_keeps c _ s)

theorem tellGrid_keeps (c : Source) (s : State) : Keeps s (tellGrid c s) :=
  ite_keeps (examine_calm s).keeps (Keeps.refl s)

theorem refreshLiveness_keeps (c : Source) (s : State) : Keeps s (refreshLiveness c s) := by
  unfold refreshLiveness; dsimp only
  exact ite_keeps (updateUnit_keeps c _ s) ((changeSource_keeps _ _ _).after (updateUnit_keeps c _ s))

theorem loseLiveness_keeps (c : Source) (s : State) : Keeps s (loseLiveness c s) := by
  unfold loseLiveness
  exact ite_keeps ((tellGrid_keeps c _).after ((changeSource_keeps _ _ _).after (updateUnit_keeps c _ s)))
    (Keeps.refl s)

theorem staleDeadline_keeps (c : Source) (s : State) : Keeps s (staleDeadline c s) := by
  unfold staleDeadline; split
  · exact ite_keeps (loseLiveness_keeps c s) (Keeps.refl s)
  · exact Keeps.refl s

theorem sensorLinkDown_keeps (c : Source) (s : State) : Keeps s (sensorLinkDown c s) :=
  (loseLiveness_keeps c _).after (updateUnit_keeps c _ s)

theorem sensorLinkUp_keeps (c : Source) (s : State) : Keeps s (sensorLinkUp c s) := updateUnit_keeps c _ s

theorem stampSample_keeps (c : Source) (handOn : Nat → State → State) (h : ∀ t s, Keeps s (handOn t s)) (s : State) :
    Keeps s (stampSample c handOn s) := by
  unfold stampSample; split
  · exact (h _ _).after (updateUnit_keeps c _ s)
  · exact updateUnit_keeps c _ s

theorem queueHead_keeps (left : Bool) (v : HeadVals) (t : Nat) (s : State) : Keeps s (queueHead left v t s) := by
  unfold queueHead; dsimp only
  generalize h1 : updateUnit _ _ s = s1
  have k1 : Keeps s s1 := by subst h1; exact updateUnit_keeps _ _ s
  exact ite_keeps (Keeps.refl s) ((examine_calm _).keeps.after (k1.trans (intake_keeps s1 _)))

theorem queueInertial_keeps (v : InertialVals) (clamp : Bool) (t : Nat) (s : State) :
    Keeps s (queueInertial v clamp t s) := by
  unfold queueInertial; dsimp only
  generalize h1 : updateUnit _ _ s = s1
  have k1 : Keeps s s1 := by subst h1; exact updateUnit_keeps _ _ s
  exact ite_keeps (Keeps.refl s) ((examine_calm _).keeps.after (k1.trans (intake_keeps s1 _)))

theorem headSample_keeps (left : Bool) (w : List Word) (s : State) : Keeps s (headSample left w s) := by
  unfold headSample; dsimp only
  exact ite_keeps (stampSample_keeps _ _ (fun t s => queueHead_keeps _ _ t s) s) (updateUnit_keeps _ _ s)

theorem inertialSample_keeps (w : List Word) (s : State) : Keeps s (inertialSample w s) := by
  unfold inertialSample; dsimp only
  exact (stampSample_keeps _ _ (fun t s => queueInertial_keeps _ _ t s) _).after
    (ite_keeps (updateUnit_keeps _ _ s) (Keeps.refl s))

theorem markerSample_keeps (w : List Word) (s : State) : Keeps s (markerSample w s) := by
  unfold markerSample
  refine ite_keeps (updateUnit_keeps _ _ s) (stampSample_keeps _ _ (fun t s => ?_) s)
  exact (takeMarkerRead_keeps _ _ _ _).after (updateUnit_keeps _ _ s)

theorem takeSample_keeps (c : Source) (w : List Word) (s : State) : Keeps s (takeSample c w s) := by
  cases c
  · exact headSample_keeps _ w s
  · exact headSample_keeps _ w s
  · exact inertialSample_keeps w s
  · exact markerSample_keeps w s

theorem validSensorFrame_keeps (c : Source) (w : List Word) (s : State) : Keeps s (validSensorFrame c w s) := by
  unfold validSensorFrame; dsimp only
  have k := (takeSample_keeps c w _).after
    ((updateUnit_keeps c (·.track (seqField w)) _).after (refreshLiveness_keeps c s))
  exact ite_keeps k ((tellGrid_keeps c _).after k)

theorem checkedSensorFrame_keeps (c : Source) (f : RxFrame) (s : State) : Keeps s (checkedSensorFrame c f s) := by
  unfold checkedSensorFrame
  exact ite_keeps (updateUnit_keeps c _ s) (ite_keeps (updateUnit_keeps c _ s) (validSensorFrame_keeps c _ s))

/-- A sensor frame leaves alone what the measurement chain leaves alone. -/
theorem sensorFrame_keeps (c : Source) (bytes : List Byte) (s : State) : Keeps s (sensorFrame c bytes s) := by
  unfold sensorFrame; dsimp only
  refine ite_keeps ?_ (Keeps.refl s)
  have k : Keeps s (if (receive bytes).corrected = true then
      updateUnit c (fun u => { u with correctedHeaders := inc16 u.correctedHeaders }) s else s) :=
    ite_keeps (updateUnit_keeps c _ s) (Keeps.refl s)
  split
  · exact (updateUnit_keeps c _ _).after k
  · exact (checkedSensorFrame_keeps c _ _).after k

end Sys2Proof.Machine
end

