-- ==== Sys2Proof/Laws/Notices.lean ====
section
/-!
SUPPORT. What offering a notice does to a port, and what ending the streams does to the part, said once (R105, R205,
R207, R223).
-/

namespace Sys2Proof.Machine

/-! ### One notice offered to one port -/

/-- An offer does not look at the inbox, the request in service or the replies of a port, and does not change them. -/
theorem Port.offer_with (q : Port) (n : Notice) (i : List Request) (v : Option InService) (r : List ReplySlot) :
    ({ q with inbox := i, inService := v, replies := r } : Port).offer n =
      { q.offer n with inbox := i, inService := v, replies := r } := by
  unfold Port.offer Port.attend Port.enqueue Port.setError Port.withAttention Port.calls
  by_cases h1 : q.state = .active <;>
    by_cases h2 : (q.options.attentionMask.getLsbD n.cls.bit || decide (n.cls = .urgent)) = true <;>
    by_cases h3 : q.notices.length < noticeCapacity <;> simp [h1, h2, h3]

@[simp] theorem Port.offer_inbox (q : Port) (n : Notice) : (q.offer n).inbox = q.inbox :=
  (congrArg (fun x : Port => x.inbox) (Port.offer_with q n q.inbox q.inService q.replies) :)

@[simp] theorem Port.offer_inService (q : Port) (n : Notice) : (q.offer n).inService = q.inService :=
  (congrArg (fun x : Port => x.inService) (Port.offer_with q n q.inbox q.inService q.replies) :)

@[simp] theorem Port.offer_replies (q : Port) (n : Notice) : (q.offer n).replies = q.replies :=
  (congrArg (fun x : Port => x.replies) (Port.offer_with q n q.inbox q.inService q.replies) :)

/-- A port that is not ACTIVE takes no notice (R205). -/
theorem Port.offer_of_not_active (q : Port) (n : Notice) (h : q.state ≠ .active) : q.offer n = q := if_neg h

/-- What every port holds after a notice has been offered to those that a rule selects (R223). -/
theorem port_offerAll (selects : Port → Bool) (c : NoticeClass) (w : List Word) (s : State) (j : PortId) :
    (offerAll selects c w s).port j =
      if selects (s.port j) then (s.port j).offer { cls := c, tag := 0#8, payload := w } else s.port j :=
  State.port_mapPorts s _ j

/-! ### Streams that end (R105) -/

/-- What every port holds after the stream of one port has ended. -/
theorem endStream_port (p j : PortId) (why : StreamEnd) (s : State) :
    (endStream p why s).port j =
      if j = p then (match s.stream p with
        | some y => (s.port p).offer (streamEndNotice y why)
        | none => s.port p)
      else s.port j := by
  cases h : s.stream p with
  | some y => simp [endStream, offerTo, h, State.port_setPort_ite]
  | none =>
    by_cases e : j = p
    · simp [endStream, h, e]
    · simp [endStream, h, e]

/-- The ended stream is gone; the others are as they were. -/
theorem endStream_stream (p j : PortId) (why : StreamEnd) (s : State) :
    (endStream p why s).stream j = if j = p then none else s.stream j := by
  unfold endStream offerTo
  split
  · simp [setStream_stream_ite]
  · next h =>
    split
    · next e => rw [e, h]
    · rfl

/-- The end of a stream changes streams and ports alone. -/
theorem endStream_frame (p : PortId) (why : StreamEnd) (s : State) :
    endStream p why s = { s with
      store := { s.store with streams := (endStream p why s).store.streams },
      ports := (endStream p why s).ports } := by
  unfold endStream offerTo
  split <;> rfl

/-- What every port holds after every stream has ended. -/
theorem endAllStreams_port (why : StreamEnd) (s : State) (j : PortId) :
    (endAllStreams why s).port j = match s.stream j with
      | some y => (s.port j).offer (streamEndNotice y why)
      | none => s.port j := by
  unfold endAllStreams PortId.all
  simp only [List.foldl, endStream_port, endStream_stream]
  cases j <;> simp

@[simp] theorem endAllStreams_stream (why : StreamEnd) (s : State) (j : PortId) :
    (endAllStreams why s).stream j = none := by
  unfold endAllStreams PortId.all
  simp only [List.foldl, endStream_stream]
  cases j <;> simp

/-- The end of every stream changes streams and ports alone. -/
theorem endAllStreams_frame (why : StreamEnd) (s : State) :
    endAllStreams why s = { s with
      store := { s.store with streams := (endAllStreams why s).store.streams },
      ports := (endAllStreams why s).ports } := by
  unfold endAllStreams PortId.all
  simp only [List.foldl]
  rw [endStream_frame .p3, endStream_frame .p2, endStream_frame .p1, endStream_frame .p0]

end Sys2Proof.Machine
end

