-- ==== Sys2Proof/Laws/Service.lean ====
section
/-!
SUPPORT. What the service of a request does, said once: which state the body of a request gets, and where its answer
goes (R203, R204, R210, R211).
-/

namespace Sys2Proof.Machine

/-! ### Reserved slots (R203, R204) -/

theorem reservedSlots_append (l m : List ReplySlot) : reservedSlots (l ++ m) = reservedSlots l + reservedSlots m :=
  List.countP_append

@[simp] theorem reservedSlots_nil : reservedSlots [] = 0 := rfl

@[simp] theorem reservedSlots_reserved (l : List ReplySlot) :
    reservedSlots (.reserved :: l) = reservedSlots l + 1 := by simp [reservedSlots]

@[simp] theorem reservedSlots_frame (a : Answer) (l : List ReplySlot) :
    reservedSlots (.frame a :: l) = reservedSlots l := by simp [reservedSlots]

/-- An answer fills the one reservation, which stands last, in its place. -/
theorem fillReserved_append (a : Answer) (l : List ReplySlot) (h : reservedSlots l = 0) :
    fillReserved a (l ++ [.reserved]) = l ++ [.frame a] := by
  induction l with
  | nil => rfl
  | cons x l ih =>
    cases x with
    | reserved => simp at h
    | frame b => simp only [reservedSlots_frame] at h; simp [fillReserved, ih h]

/-- The reservation of a request without an answer is gone again. -/
theorem dropReserved_append (l : List ReplySlot) (h : reservedSlots l = 0) : dropReserved (l ++ [.reserved]) = l := by
  induction l with
  | nil => rfl
  | cons x l ih =>
    cases x with
    | reserved => simp at h
    | frame b => simp only [reservedSlots_frame] at h; simp [dropReserved, ih h]

@[simp] theorem fillReserved_length (a : Answer) (l : List ReplySlot) : (fillReserved a l).length = l.length := by
  induction l with
  | nil => rfl
  | cons x l ih => cases x <;> simp [fillReserved, ih]

theorem dropReserved_length_le (l : List ReplySlot) : (dropReserved l).length ≤ l.length := by
  induction l with
  | nil => exact Nat.le_refl _
  | cons x l ih => cases x <;> simp [dropReserved, ih]

/-- An answer takes one reservation away, if there is one. -/
theorem reservedSlots_fillReserved (a : Answer) (l : List ReplySlot) :
    reservedSlots (fillReserved a l) = reservedSlots l - 1 := by
  induction l with
  | nil => rfl
  | cons x l ih => cases x <;> simp [fillReserved, ih]

theorem reservedSlots_dropReserved (l : List ReplySlot) : reservedSlots (dropReserved l) = reservedSlots l - 1 := by
  induction l with
  | nil => rfl
  | cons x l ih => cases x <;> simp [dropReserved, ih]

/-! ### Taking a request -/

/-- What `serveWhen` can do: nothing, or the body on the state with the oldest request taken. -/
theorem serveWhen_cases (isKind : Byte → Bool) (p : PortId) (body : Request → State → State) (s : State) :
    serveWhen isKind p body s = s ∨
      ∃ r rest, (s.port p).inbox = r :: rest ∧ isKind r.kind = true ∧ (s.port p).inService = none ∧
        (s.port p).replies.length < replyCapacity ∧
        serveWhen isKind p body s = body r (s.setPort p ((s.port p).taken rest)) := by
  unfold serveWhen
  split
  · next r rest h =>
    split
    · next hc =>
      simp only [Port.mayTake, Bool.and_eq_true, decide_eq_true_eq, Option.isNone_iff_eq_none] at hc
      exact .inr ⟨r, rest, h, hc.1, hc.2.1, hc.2.2, rfl⟩
    · exact .inl rfl
  · exact .inl rfl

/-- What `serveKind` can do: nothing, a refusal for the payload length, or the body on the state with the oldest request
taken. -/
theorem serveKind_cases (k : RequestKind) (ok : Nat → Bool) (p : PortId) (body : Request → State → State) (s : State) :
    serveKind k ok p body s = s ∨
      ∃ r rest, (s.port p).inbox = r :: rest ∧ r.kind = k.code ∧ (s.port p).inService = none ∧
        (s.port p).replies.length < replyCapacity ∧
        ((ok r.payload.length = false ∧
            serveKind k ok p body s =
              refuse p r.kind r.tag .badPayload 0 (s.setPort p ((s.port p).taken rest))) ∨
          (ok r.payload.length = true ∧
            serveKind k ok p body s = body r (s.setPort p ((s.port p).taken rest)))) := by
  rcases serveWhen_cases (fun c => decide (c = k.code)) p
      (fun r t => if ok r.payload.length then body r t else refuse p r.kind r.tag .badPayload 0 t) s with h | h
  · exact .inl h
  · obtain ⟨r, rest, h1, h2, h3, h4, h5⟩ := h
    refine .inr ⟨r, rest, h1, of_decide_eq_true h2, h3, h4, ?_⟩
    cases hl : ok r.payload.length
    · exact .inl ⟨rfl, h5.trans (by simp [hl])⟩
    · exact .inr ⟨rfl, h5.trans (by simp [hl])⟩

section

variable {k : RequestKind} {p : PortId} {r : Request} {rest : List Request} {s : State}

/-- A request that SVC may take, of a permitted length, reaches its body with one slot reserved. -/
theorem Serves.body_runs (h : Serves k p r rest s) {ok : Nat → Bool} (hl : ok r.payload.length = true)
    (body : Request → State → State) :
    serveKind k ok p body s = body r (s.setPort p ((s.port p).taken rest)) := by
  simp [serveKind, serveWhen, h.head, h.kind, Port.mayTake, h.idle, h.room, hl]

/-- A request that SVC may take, of a length that its kind does not permit, is refused. -/
theorem Serves.length_refused (h : Serves k p r rest s) {ok : Nat → Bool} (hl : ok r.payload.length = false)
    (body : Request → State → State) :
    serveKind k ok p body s = refuse p r.kind r.tag .badPayload 0 (s.setPort p ((s.port p).taken rest)) := by
  simp [serveKind, serveWhen, h.head, h.kind, Port.mayTake, h.idle, h.room, hl]

/-- A request that needs authority, from the holder. -/
theorem Serves.holder_runs (h : Serves k p r rest s) {ok : Nat → Bool} (hl : ok r.payload.length = true)
    (hh : s.svc.holder = some p) (body : Request → State → State) :
    serveHolder k ok p body s = body r (s.setPort p ((s.port p).taken rest)) := by
  unfold serveHolder; rw [h.body_runs hl]; simp [hh]

/-- A request that needs authority, from another port. -/
theorem Serves.not_holder (h : Serves k p r rest s) {ok : Nat → Bool} (hl : ok r.payload.length = true)
    (hh : s.svc.holder ≠ some p) (body : Request → State → State) :
    serveHolder k ok p body s = refuse p r.kind r.tag .notHolder 0 (s.setPort p ((s.port p).taken rest)) := by
  unfold serveHolder; rw [h.body_runs hl]; simp [hh]

/-- The answer to a request just taken stands behind the port's earlier answers. -/
theorem Serves.answer_taken (h : Serves k p r rest s) (a : Answer) :
    answer p a (s.setPort p ((s.port p).taken rest)) = s.answered p rest a := by
  simp [answer, State.answered, Port.taken, fillReserved_append a _ h.unreserved]

/-- The REPLY to a request just taken. -/
theorem Serves.reply_taken (h : Serves k p r rest s) (w : List Word) :
    reply p r.tag w (s.setPort p ((s.port p).taken rest)) = s.answered p rest (answerTo r w) :=
  h.answer_taken _

/-- The REFUSE of a request just taken. -/
theorem Serves.refuse_taken (h : Serves k p r rest s) (why : Reason) (n : Nat) :
    refuse p r.kind r.tag why n (s.setPort p ((s.port p).taken rest)) = s.answered p rest (refusal r why n) :=
  h.answer_taken _

end

end Sys2Proof.Machine
end

