-- ==== Sys2Proof/WellFormed.lean ====
section
/-!
DEFINITION. Well-formed commands. The operand types admit only lines, sources and ports that the part has, and a
receiver examines every sequence of bytes (R192: one of fewer than 4 bytes is a bad frame), so the one check is that
a frame can stand between two symbols of the line code at all: a bound far above the largest frame of 1026 bytes (R195).
-/

namespace Sys2Proof

/-- The most bytes between two symbols that a command may carry. R195 makes every count other than the header's a
bad frame, so a longer reception differs from this one in nothing. DESIGN CHOICE, safe (notes/assumptions/8.md). -/
def maxReception : Nat := 65535

/-- A command whose frame, if it carries one, is no longer than `maxReception`. The meanings do not depend on it. -/
def Instr.wellFormed : Instr → Bool
  | .sensorFrameArrival _ bytes => decide (bytes.length ≤ maxReception)
  | .clientFrameArrival _ bytes => decide (bytes.length ≤ maxReception)
  | _ => true

end Sys2Proof
end

