-- ==== Sys2Proof/Tests/Slice0.lean ====
section
/-!
SUPPORT. Tests. The first part takes its expected values from the spec's worked examples and tables, which each comment
names; the second part shows that the hypotheses of each statement can be met.
-/

namespace Sys2Proof.Tests

open Sys2Proof Sys2Proof.Machine

-- One theorem at a time: many kernel evaluations side by side need more memory for their stacks than one is given.
set_option Elab.async false

/-! ### Small states -/

/-- The state that a step answers. -/
def stateOf : Host.Outcome State Fault Refusal → State
  | .next t => t
  | .fault _ => State.reset
  | .refused _ => State.reset

/-- An ACTIVE port. -/
def client : Port := { Port.reset with state := .active, presenceAt := some 503000 }

/-- Two ACTIVE ports, PORT0 the holder, 3 ms after reset. -/
def base : State :=
  { State.reset with now := 3000, ports := ⟨client, client, Port.reset, Port.reset⟩,
                     svc := { Svc.reset with holder := some .p0 } }

/-- A request with tag 7. -/
def req (k : RequestKind) (payload : List Word) : Request := { kind := k.code, tag := 7#8, payload }

/-- A state with a request waiting in the inbox of a port. -/
def State.asked (s : State) (p : PortId) (r : Request) : State := s.setPort p { s.port p with inbox := [r] }

/-- `base` with a request of PORT0 waiting. -/
def asked (k : RequestKind) (payload : List Word) : State := State.asked base .p0 (req k payload)

/-- A run begun: FORWARD, rising, from chainage 1000. -/
def begun : State := stateOf (exec (.startRun .p0) (asked .startRun [0#32, 0#32, 1000#32]))

/-- `begun` with a request of PORT0 waiting. -/
def askedIn (k : RequestKind) (payload : List Word) : State := State.asked begun .p0 (req k payload)

/-- PORT1 has claimed the authority of PORT0. -/
def claimed : State := stateOf (exec (.claim .p1) (State.asked base .p1 (req .claim [])))

/-! ### Well-formed commands -/

theorem test_wellFormed_accepts :
    (Instr.clientFrameArrival .p0 [0x02#8, 0x10#8, 0x01#8, 0x20#8]).wellFormed = true := by decide

theorem test_wellFormed_refuses_client :
    (Instr.clientFrameArrival .p0 (List.replicate 65536 0#8)).wellFormed = false := by
  simp only [Instr.wellFormed, List.length_replicate]; rfl

theorem test_wellFormed_refuses_sensor :
    (Instr.sensorFrameArrival .marker (List.replicate 65536 0#8)).wellFormed = false := by
  simp only [Instr.wellFormed, List.length_replicate]; rfl

/-- The table gives no row bits. -/
theorem test_decode_none : decodeTableWord 8 0x01 = none := by decide

/-! ### Frames (10 section 10.1, worked example of a header and three faults) -/

theorem test_header_example :
    buildHeader { kind := 0x01#8, tag := 0x00#8, length := 0x01#8, seq := 0#2 } = 0x20011002#32 ∧
      wordBytes 0x20011002#32 = [0x02#8, 0x10#8, 0x01#8, 0x20#8] := by decide +kernel

theorem test_header_faults :
    checkHeader 0x20010002#32 = .corrected { kind := 0x01#8, tag := 0x00#8, length := 0x01#8, seq := 0#2 } ∧
      checkHeader 0x20011003#32 = .corrected { kind := 0x01#8, tag := 0x00#8, length := 0x01#8, seq := 0#2 } ∧
      checkHeader 0x20010022#32 = .uncorrectable := by decide +kernel

/-! ### ODO (chapter 1) -/

/-- The remainder accumulation example of 1.2. -/
theorem test_remainder :
    remainderAfter 816 272 1024 true = (64, true) ∧ remainderAfter 64 272 1024 false = (816, true) ∧
      stepMagnitude 2822 true = 2823 := by decide

/-- The disagreeing window of 1.4: 22 300 000 against 20 008 000. -/
theorem test_window : Window.agrees ⟨⟨1000400, 978100⟩, false⟩ 20 = false ∧
    Window.smaller ⟨⟨1000400, 978100⟩, false⟩ = .t2 := by decide

/-- Crossing time and speed of point 500 in 1.5. -/
theorem test_crossing : pulseCrossing 2000000 124998500 2000032 125001322 500 = 2000017 ∧
    speedAfter 2812 0 = 88905 ∧ speedAfter 0 27778 = 27778 := by decide

/-! ### GRID, GEO and CLS (chapters 3, 4 and 7) -/

/-- R49: -17.5 becomes -18. -/
theorem test_round : roundDiv (-35) 2 = -18 ∧ roundDiv 35 2 = 18 ∧ roundDiv (-34) 4 = -9 ∧ roundDiv 5 3 = 2 := by decide

/-- The two integrator examples of 4.4. -/
theorem test_integrator :
    Integrator.step ⟨400000, 1000000⟩ 1200 50000 10 = (⟨519610, 1129903⟩, false) ∧
      Integrator.step ⟨30000000, -4000000⟩ 50000 4200 10 = (⟨100000000, 21000000⟩, true) := by decide

/-- The raw point of the example of 4.6. -/
def point600 : RawPoint :=
  { index := 600, crossing := 9000000, speed := 50000, afterBacktrack := false, headL := ⟨212, 140⟩, headR := ⟨143, -95⟩,
    inertial := ⟨0, 0, 0, 23450, 25000⟩, statusL := .good, statusR := .good, statusI := .good, clampL := false,
    clampR := false, clampI := false }

theorem test_parameters :
    gaugeOf Settings.default point600 = ⟨355, .good, false⟩ ∧ cantOf Settings.default point600 = ⟨3753, .good, false⟩ ∧
      twistOf 12 [⟨588, 2410, .good⟩, ⟨600, 3753, .good⟩] 600 = ⟨1343, .good, false⟩ ∧
      curvOf false point600 = ⟨500, .good, false⟩ ∧ curvOf true point600 = ⟨0, .void, false⟩ := by decide

/-- R79: 32 767 minus -32 768 is limited. -/
theorem test_twist_limited :
    twistOf 12 [⟨588, -32768, .good⟩, ⟨600, 32767, .good⟩] 600 = ⟨32767, .clamped, true⟩ := by decide

/-- A chord entry for the versine example of 4.7. -/
def chord (index : Nat) (zL : Int) (mark : IntegMark) (seam : Bool) : ChordEntry :=
  { index, zL, zR := 0, yL := 0, yR := 0, headL := .good, headR := .good, inertial := .good, inertialClamp := false,
    markVL := mark, markVR := .clear, markLat := .clear, seam, lowSpeed := false }

/-- The versine of 4.7 and its changed histories: a mark or a seam at 580 counts for nothing, a mark at 611 clamps, a
seam at 605 voids. -/
theorem test_versine :
    versineAt [chord 580 1235000 .clamped true, chord 600 3141500 .clear false, chord 620 998200 .clear false] 600 20
        ⟨.levelL, true, true⟩ = ⟨202, .good, false⟩ ∧
      versineAt [chord 580 1235000 .clear false, chord 600 3141500 .clear false, chord 611 0 .clamped false,
        chord 620 998200 .clear false] 600 20 ⟨.levelL, true, true⟩ = ⟨202, .clamped, false⟩ ∧
      versineAt [chord 580 1235000 .clear false, chord 600 3141500 .clear false, chord 605 0 .clear true,
        chord 620 998200 .clear false] 600 20 ⟨.levelL, true, true⟩ = ⟨0, .void, false⟩ := by decide

/-- R62: with v_min 4167 the exit speed is 4687. -/
theorem test_lowSpeed :
    isLowSpeed 4167 .outside 4166 = true ∧ isLowSpeed 4167 .outside 4167 = false ∧
      isLowSpeed 4167 .inside 4686 = true ∧ isLowSpeed 4167 .inside 4687 = false := by decide

/-- R144: with hi1 = 300, hi2 = 0 and hi3 = 600, 450 is at level 1 and 601 at level 3; a limit itself is not
exceeded. -/
theorem test_levels :
    Limits.judge { Limits.zero with hi1 := 300, hi3 := 600 } 450 = some (1, .high) ∧
      Limits.judge { Limits.zero with hi1 := 300, hi3 := 600 } 601 = some (3, .high) ∧
      Limits.judge { Limits.zero with hi1 := 300, hi3 := 600 } 300 = none ∧
      Limits.judge { Limits.zero with lo3 := 32767 } (-32768) = some (3, .low) := by decide

/-- R3: VOID, then CLAMPED, then HELD, then GOOD. -/
theorem test_status : Status.joinAll [.good, .held, .clamped] = .clamped ∧ Status.joinAll [.clamped, .void] = .void ∧
    Status.joinAll [.good, .held] = .held ∧ Status.joinAll [.good] = .good := by decide

/-! ### Runs and steps -/

/-- START_RUN is answered REPLY with run number 1 and the acceptance time 3000, and point 0 stands at 1000 mm. -/
theorem test_startRun :
    (begun.port .p0).replies = [.frame { kind := .reply, tag := 7#8, rest := [1#32, 3000#32, 0#32] }] ∧
      begun.run.state = .running ∧ (begun.store.point 0).map (·.chainage) = some 1000 := by decide +kernel

/-- An idle step counts one microsecond. -/
theorem test_idle : (stateOf (step State.reset)).now = 1 := by decide +kernel

/-- A CLAIM against a holder waits with a yield deadline 1000 ms after its service (R218). -/
theorem test_claim : claimed.svc = { holder := some .p0, claimant := some .p1, yieldAt := some 1003000 } := by
  decide +kernel

/-! ### Witnesses: states and operands that meet the hypotheses of the statements -/

/-- A request alone in the inbox of a port whose replies are few and unreserved is one that SVC may take. -/
theorem serves_asked {s : State} {p : PortId} {k : RequestKind} {w : List Word} (h1 : (s.port p).inService = none)
    (h2 : (s.port p).replies.length < replyCapacity) (h3 : reservedSlots (s.port p).replies = 0) :
    Serves k p (req k w) [] (State.asked s p (req k w)) := by
  constructor <;> simp [State.asked, req, h1, h2, h3]

theorem serves_base (k : RequestKind) (w : List Word) : Serves k .p0 (req k w) [] (asked k w) :=
  serves_asked (by decide) (by decide) (by decide)

theorem serves_begun (k : RequestKind) (w : List Word) : Serves k .p0 (req k w) [] (askedIn k w) :=
  serves_asked (by decide +kernel) (by decide +kernel) (by decide +kernel)

theorem witness_IdleStepCountsOneMicrosecond :
    State.reset.pending = [] ∧ State.reset.now < 281474976710655 ∧ timebaseEnd = 281474976710655 := by decide

/-- A state whose line T1A stands as given. -/
def withLine (x : LineState) (s : State) : State := { s with odo := { s.odo with lines := s.odo.lines.set .t1A x } }

/-- At the reset state nothing is due. A candidate of T1A of count 0 is due at 4 and not at 3, and is then the one event
that is due. -/
theorem witness_IdleStepTakesWhatIsDue :
    (∀ c, ¬State.reset.Due c) ∧
      (let s : State := { withLine ⟨true, false, some 0⟩ State.reset with now := 4 }
       s.Due (.tachEdgeValidated .t1A) ∧ ∀ d, s.Due d → d = .tachEdgeValidated .t1A) ∧
      ∀ c, ¬({ withLine ⟨true, false, some 0⟩ State.reset with now := 3 } : State).Due c := by
  refine ⟨fun c h => ?_, ⟨.edge .t1A 0 (by decide) (by decide), fun d h => ?_⟩, fun c h => ?_⟩
  · cases h with
    | edge l t h1 h2 => cases l <;> nomatch h1
    | stale c d h1 h2 h3 => cases c <;> nomatch h1
    | presence p d h1 h2 h3 => cases p <;> nomatch h1
    | align d h1 h2 => nomatch h1
    | yield p d h1 h2 h3 => nomatch h1
    | fall h1 h2 => nomatch h1
    | rise h1 h2 h3 => nomatch h2
  · cases h with
    | edge l t h1 h2 => cases l <;> first | rfl | nomatch h1
    | stale c d h1 h2 h3 => cases c <;> nomatch h1
    | presence p d h1 h2 h3 => cases p <;> nomatch h1
    | align d h1 h2 => nomatch h1
    | yield p d h1 h2 h3 => nomatch h1
    | fall h1 h2 => nomatch h1
    | rise h1 h2 h3 => nomatch h2
  · cases h with
    | edge l t h1 h2 =>
      cases l
      · cases h1; exact absurd h2 (by decide)
      all_goals nomatch h1
    | stale c d h1 h2 h3 => cases c <;> nomatch h1
    | presence p d h1 h2 h3 => cases p <;> nomatch h1
    | align d h1 h2 => nomatch h1
    | yield p d h1 h2 h3 => nomatch h1
    | fall h1 h2 => nomatch h1
    | rise h1 h2 h3 => nomatch h2

theorem witness_ResetsGiveTheResetState :
    timebaseEnd ≤ 281474976710655 ∧ State.reset.now < timebaseEnd := by decide

theorem witness_RoundingIsToNearestTiesAway : 0 < 2 ∧ 2 * ((1 : Int) - roundDiv 1 2 * 2).natAbs = 2 := by decide

theorem witness_HeaderCheckFollowsSyndromeAndParity :
    let ones (h : Word) : Nat := ((List.range 32).filter fun i => h.getLsbD i).length
    (ones 0x20011002#32 % 2 = 0 ∧ syndrome 0x20011002#32 = 0) ∧ ones 0x20011003#32 % 2 = 1 ∧
      ones 0x20010022#32 % 2 = 0 ∧ syndrome 0x20010022#32 ≠ 0 := by decide +kernel

theorem witness_FramesAreReceivedAsBuilt : (List.replicate 255 0#32).length ≤ 255 ∧ 31 < 32 :=
  ⟨Nat.le_of_eq List.length_replicate, by decide⟩

theorem witness_PayloadBitErrorsFailTheCrc :
    [0#32] ≠ ([] : List Word) ∧ [0#32].length ≤ 255 ∧ 5 < 4 * [0#32].length + 2 ∧ 7 < 8 ∧
      (let body : List Byte := [1#8, 0#8, 0#8, 0#8]
       (1#8).toNat ≠ 0 ∧ body.length = 4 * (1#8).toNat ∧ (crcBytes (crc body)).length = 2 ∧
         [0#8, 0#8] ≠ crcBytes (crc body) ∧ body.length ≠ 4 * (1#8).toNat + 2) := by decide +kernel

theorem witness_RawChangesStartAndDropCandidates :
    (let s := State.reset
     (s.odo.lines.get .t1A).due s.run.settings.glitchUs s.now = false ∧ (s.odo.lines.get .t1A).raw ≠ true ∧
       true ≠ (s.odo.lines.get .t1A).filtered) ∧
    ∀ s ∈ [withLine ⟨true, false, some 3000⟩ base, withLine ⟨true, false, some 3000⟩ begun],
      (s.odo.lines.get .t1A).due s.run.settings.glitchUs s.now = false ∧ (s.odo.lines.get .t1A).raw ≠ false ∧
        false = (s.odo.lines.get .t1A).filtered := by decide +kernel

/-- At 5, with candidates of T1A from 1 and of T2A from 0. -/
def twoDue : State :=
  { State.reset with
    now := 5
    odo := { Odo.reset with lines := ⟨⟨true, false, some 1⟩, LineState.reset, ⟨true, false, some 0⟩, LineState.reset⟩ } }

/-- The edge of T2A is taken before that of T1A, and a change of T1A back to low at that count then starts a candidate. -/
theorem witness_RawChangesTakeDueEdges :
    (twoDue.Due (.tachEdgeValidated .t1A) ∧ twoDue.DueEdges [.t2A, .t1A]) ∧
      (stateOf (exec (.tachRawChange .t1A false) twoDue)).odo.lines =
        ⟨⟨false, true, some 5⟩, LineState.reset, ⟨true, true, none⟩, LineState.reset⟩ := by
  have a : twoDue.Due (.tachEdgeValidated .t1A) := .edge .t1A 1 rfl (by decide)
  have b : twoDue.Due (.tachEdgeValidated .t2A) := .edge .t2A 0 rfl (by decide)
  refine ⟨⟨a, by decide, fun l => ?_, ?_⟩, by decide⟩
  · cases l
    · exact ⟨fun _ => a, fun _ => by decide⟩
    · exact ⟨fun h => absurd h (by decide), fun h => by cases h with | edge _ _ h _ => nomatch h⟩
    · exact ⟨fun _ => b, fun _ => by decide⟩
    · exact ⟨fun h => absurd h (by decide), fun h => by cases h with | edge _ _ h _ => nomatch h⟩
  · refine List.pairwise_pair.mpr fun x y hx hy => ?_
    cases hx; cases hy; exact .inl (by decide)

theorem witness_EdgesThatAreNoPulses :
    ∀ s ∈ [withLine ⟨false, true, some 2996⟩ begun, withLine ⟨true, false, some 2996⟩ base,
        withLine ⟨true, false, some 2996⟩ begun],
      (s.odo.lines.get .t1A).candidate = some 2996 ∧ 2996 + s.run.settings.glitchUs ≤ s.now ∧
        noEarlier s.odo.lines 2996 = true ∧
        ((s.odo.lines.get .t1A).filtered = true ∨ s.run.state = .idle ∨
          ∃ r ∈ s.run.record, 2996 < r.t0) := by decide +kernel

/-- A run, at 3104, in which T1A rose at 3100: run distance, HW, BACKTRACK, the time of the last event, the level of
T1B, and the believed channel as given. The pulse steps 2822 µm, backward 2823 µm. -/
def pulseRun (dist high : Int) (back : Bool) (last : Nat) (levelB : Bool) (believed : Channel) : State :=
  { begun with
    now := 3104
    odo := { begun.odo with
      lines := ⟨⟨true, false, some 3100⟩, ⟨levelB, levelB, none⟩, LineState.reset, LineState.reset⟩,
      runDistance := dist, highWater := high, backtrack := back, eventRec := some (last, dist), believed } }

/-- The state after its pulse. -/
def pulsed (s : State) : State := stateOf (exec (.tachEdgeValidated .t1A) s)

/-- The premises; then, with the values of 1.2 and 1.5: no boundary, a boundary reached exactly and from 1 µm below it,
a second point at the time of the first, BACKTRACK entered one µm beyond backtrack_mm and ended one µm above HW, a
channel that is not believed, and a window that stays 1 µm short of closing and one that closes. -/
theorem witness_PulsesMoveTheirChannel :
    (∀ s ∈ [pulseRun 247177 247177 false 3050 false .t1, pulseRun 247178 247178 false 3050 false .t1,
        pulseRun 249999 249999 false 3050 false .t1, pulseRun 249999 249999 false 3000 false .t1,
        pulseRun (-97178) 0 false 3050 true .t1, pulseRun 0 2821 true 3050 false .t1,
        pulseRun 0 0 false 3050 false .t2],
      (s.odo.lines.get .t1A).candidate = some 3100 ∧ (s.odo.lines.get .t1A).filtered = false ∧
        3100 + s.run.settings.glitchUs ≤ s.now ∧ noEarlier s.odo.lines 3100 = true ∧ s.run.state = .running ∧
        (s.run.record.map (·.t0)) = some 3000 ∧ s.odo.window = some Window.empty ∧
        (Window.empty.add .t1 2822 true).full = false ∧ (Window.empty.add .t1 (-2823) false).full = false ∧
        s.store.w = some 0 ∧ s.odo.lastCrossing = 3000) ∧
      ([pulseRun 247177 247177 false 3050 false .t1, pulseRun 247178 247178 false 3050 false .t1,
        pulseRun 249999 249999 false 3050 false .t1, pulseRun 249999 249999 false 3000 false .t1].map fun s =>
          ((pulsed s).store.w, (pulsed s).odo.lastCrossing)) =
        [(some 0, 3000), (some 1, 3100), (some 1, 3050), (some 1, 3000)] ∧
      ([pulseRun (-97177) 0 false 3050 true .t1, pulseRun (-97178) 0 false 3050 true .t1,
        pulseRun 0 2822 true 3050 false .t1, pulseRun 0 2821 true 3050 false .t1].map fun s =>
          (pulsed s).odo.backtrack) = [false, true, true, false] ∧
      (pulsed (pulseRun 0 0 false 3050 false .t2)).odo.runDistance = 0 ∧
      ([997177, 997178].map fun a =>
        let s := pulseRun 0 0 false 3050 false .t1
        let t := pulsed { s with odo := { s.odo with window := some ⟨⟨a, 990000⟩, false⟩ } }
        (t.odo.window, t.odo.judged, t.odo.runDistance)) =
        [(some ⟨⟨999999, 990000⟩, false⟩, 0, 2822), (some Window.empty, 1, 2822)] := by decide +kernel

/-- A run in which a window has closed: advances, state, believed channel, the counts of windows in a row that agreed
and that disagreed, and the run distance as given. -/
def judgedRun (a1 a2 : Int) (state : OdoState) (believed : Channel) (agreed disagreed : Nat) (dist : Int) : State :=
  { begun with odo := { begun.odo with
      window := some ⟨⟨a1, a2⟩, false⟩, state, believed, agreeRun := agreed, disagreeRun := disagreed,
      runDistance := dist, highWater := dist } }

/-- A run whose ports ask for every notice, 1 µm below the first boundary in BACKTRACK, with 49 disagreeing windows behind
it: the high-water mark as given. -/
def correctedRun (a2 high : Int) : State :=
  let s := judgedRun 0 a2 .slide .t1 0 49 249999
  { s with
    odo := { s.odo with highWater := high, backtrack := true },
    ports := ⟨{ client with options := { LinkOptions.default with noticeMask := 7#3 } }, client, Port.reset, Port.reset⟩ }

/-- A correction that ends 1 µm below the sixth boundary or on it; and BACKTRACK ended 1 µm above HW and not at it. The
notices are those of the state, of the entry into FAULT, and of the end of BACKTRACK, in this order. -/
theorem witness_ClosedWindowCorrects :
    (∀ s ∈ [correctedRun 1000000 1249999, correctedRun 1000001 1249999], s.run.state = .running ∧ s.store.w = some 0 ∧
      s.odo.believed = .t1 ∧ s.odo.runDistance = 249999 ∧ s.pos.state ≠ .doubtful ∧ s.odo.history.length ≤ 2048) ∧
      (249999 : Int) < 250000 ∧ (250000 : Int) ≤ 1249999 ∧ (1250000 : Int) < 1500000 ∧
      ([correctedRun 1000000 1249999, correctedRun 1000001 1249999].map fun s =>
        let t := windowTest 3100 s
        (t.store.w, t.odo.backtrack, t.odo.spacingOwed - s.odo.spacingOwed, (t.port .p0).notices.map (·.cls))) =
        [(some 4, true, 4, [.odometry, .location]), (some 5, false, 5, [.odometry, .location, .odometry])] := by
  decide +kernel

/-- The premises; then the tenth agreeing window in SLIDE, the fiftieth disagreeing one, and a correction by 20001 µm
that reaches a boundary exactly or stays 1 µm below it. -/
theorem witness_ClosedWindowIsJudged :
    (∀ w ∈ [Window.mk ⟨-1, 1000000⟩ false, ⟨⟨1000000, 0⟩, true⟩, ⟨⟨1000000, 980000⟩, false⟩,
        ⟨⟨1000000, 979999⟩, false⟩, ⟨⟨979999, 1000000⟩, false⟩], w.full = true) ∧
      (20000 : Int) * 1000 ≤ 20 * 1000000 ∧ ¬(20001 : Int) * 1000 ≤ 20 * 1000000 ∧
      (∀ s ∈ [judgedRun 979999 1000000 .normal .t1 0 0 229999, judgedRun 979999 1000000 .normal .t1 0 0 229998],
        s.run.state = .running ∧ s.store.w = some 0 ∧ s.odo.believed = .t1 ∧ s.run.settings.slideTol = 20) ∧
      ([judgedRun 1000000 980000 .slide .t2 8 0 0, judgedRun 1000000 980000 .slide .t2 9 0 0,
        judgedRun 1000000 979999 .slide .t1 0 48 0, judgedRun 1000000 979999 .slide .t1 0 49 0].map fun s =>
          ((windowTest 3100 s).odo.state, (windowTest 3100 s).odo.believed, (windowTest 3100 s).pos.state)) =
        [(.slide, .t2, .unfixed), (.normal, .t1, .unfixed), (.slide, .t1, .unfixed), (.fault, .t1, .doubtful)] ∧
      ([judgedRun 979999 1000000 .normal .t1 0 0 229999, judgedRun 979999 1000000 .normal .t1 0 0 229998].map fun s =>
          ((windowTest 3100 s).odo.runDistance, (windowTest 3100 s).store.w)) =
        [(250000, some 1), (249999, some 0)] := by decide +kernel

theorem witness_SpacingPulsesStartAndEnd :
    (begun.odo.spacingHigh = false ∧ 0 < begun.odo.spacingOwed ∧ begun.odo.spacingSince + 10 ≤ begun.now) ∧
      (let s := { stateOf (exec .spacingPulseStart begun) with now := 3010 }
       s.odo.spacingHigh = true ∧ s.odo.spacingSince + 10 ≤ s.now) := by decide +kernel

/-- A HEAD_SAMPLE frame with spot valid. -/
def headFrame : List Byte := frameBytes 0x80#8 0#8 0#2 [0x00010005#32, 0x00010002#32]

theorem witness_SensorFramesThatAreDiscarded :
    (base.unit .headL).linkUp = true ∧ (receive []).result.toOption = none ∧ (receive []).corrected = false ∧
      (receive headFrame).result.toOption.map (·.kind) = some 0x80#8 ∧ Source.frameKind .inertial ≠ 0x80#8 ∧
      (receive (frameBytes 0x80#8 0#8 0#2 [0#32])).result.toOption.map (·.payload.length) = some 1 := by
  decide +kernel

/-- A run in which HEAD_L is LIVE and no point waits. -/
def liveRun : State :=
  let s := stateOf (exec .alignDeadline { begun with now := 5000 })
  stateOf (exec (.sensorFrameArrival .headL headFrame) s)

/-- A state in which a source is LIVE, with its deadline and its previous stamp as given. -/
def withLive (c : Source) (deadline : Nat) (prev : Option Nat) (s : State) : State :=
  updateUnit c (fun u => { u with state := .live, deadline := some deadline, prevStamp := prev }) s

/-- A run in which a source is LIVE and no point waits. -/
def liveSource (c : Source) (prev : Option Nat) : State := { withLive c 9000 prev begun with now := 5001 }

/-- The frames: an inertial sample beyond its limit, a head sample without a spot, a marker read of strength 0 and one of
strength 5. -/
theorem test_sensorFrames :
    (receive (frameBytes 0x81#8 0#8 0#2 [7#32, 50001#32, 0#32, 0#32, 0#32, 0#32])).result.toOption =
        some { kind := 0x81#8, tag := 0#8, seq := 0#2, payload := [7#32, 50001#32, 0#32, 0#32, 0#32, 0#32] } ∧
      ∀ x ∈ [(0x80#8, [0x00000005#32, 0#32]), (0x82#8, [0x00000001#32, 9#32]), (0x82#8, [0x00050001#32, 9#32])],
        (receive (frameBytes x.1 0#8 0#2 x.2)).result.toOption =
          some { kind := x.1, tag := 0#8, seq := 0#2, payload := x.2 } := by decide +kernel

/-- R32: 50 000 is within the limit of an acceleration, 50 001 is limited. -/
theorem test_inertial_limit :
    InertialVals.limited ⟨50000, -50001, 50001, -200001, 2000001⟩ = ⟨50000, -50000, 50000, -200000, 2000000⟩ := by
  decide

/-- A run whose point 0 waits, since HEAD_L is LIVE without a sample after it. -/
def waitingRun : State :=
  let s := stateOf (exec (.sensorFrameArrival .headL headFrame) base)
  stateOf (exec (.startRun .p0) (State.asked s .p0 (req .startRun [0#32, 0#32, 1000#32])))

/-- A run at 4999 with point 0 waiting since 3000, as a source that went LIVE in IDLE stopped its forming; the source named
last reaches its stale deadline now. -/
def waitingAt (c : Source) (s : State) : State := { withLive c 4999 none s with now := 4999 }

/-- Clean and with a header bit inverted; a source in each state, in IDLE and in a run; a stamp one above the previous one
and one at it. -/
theorem witness_HeadSamplesJoinTheirQueue :
    (receive headFrame).result.toOption =
        some { kind := 0x80#8, tag := 0#8, seq := 0#2, payload := [0x00010005#32, 0x00010002#32] } ∧
      (receive (headFrame.set 0 (headFrame.getD 0 0#8 ^^^ 4#8))).corrected = true ∧
      (receive (headFrame.set 0 (headFrame.getD 0 0#8 ^^^ 4#8))).result.toOption = (receive headFrame).result.toOption ∧
      (begun.unit .headR).linkUp = true ∧ (begun.unit .headR).state = .absent ∧ (begun.unit .headR).prevStamp = none ∧
      (base.unit .headR).linkUp = true ∧ base.run.state = .idle ∧
      ((waitingAt .headL waitingRun).unit .headL).state = .live ∧
      (∀ c ∈ [Source.headL, .headR, .inertial],
        let s := liveSource c (some 5000)
        (s.unit c).linkUp = true ∧ (s.unit c).state = .live ∧ s.run.state = .running ∧
         s.grid.waiting = [] ∧ s.intake.refTime = some 3000 ∧ s.run.settings.latency c = 0) ∧
      (∀ c ∈ [Source.headL, .inertial, .marker],
        let s := liveSource c (some 5001)
        (s.unit c).linkUp = true ∧ (s.unit c).state = .live ∧ s.now - s.run.settings.latency c ≤ 5001) ∧
      ((stateOf (exec (.sensorFrameArrival .headL headFrame) (liveSource .headL (some 5001)))).unit
        .headL).nonmonotone = 1 := by decide +kernel

/-- `waitingRun` 1 µs before the deadline of point 0, which crossed at 3000, with a latency of HEAD_L. -/
def lateHead (latency : Nat) : State :=
  { waitingRun with
    now := 4999, run := { waitingRun.run with settings := { waitingRun.run.settings with latencyL := latency } } }

/-- An examination forms nothing in IDLE, with no point waiting, and where HEAD_L holds up the awaited point until its
deadline at 5000. -/
theorem witness_FormsNothing :
    base.FormsNothing .headL ∧ begun.FormsNothing .headL ∧ (lateHead 0).FormsNothing .headR ∧
      (lateHead 0).grid.deadline = some 5000 := by
  have h : (lateHead 0).grid.waiting = [{ index := 0, crossing := 3000, speed := 0, afterBacktrack := false }] ∧
      (lateHead 0).grid.deadline = some 5000 := by decide +kernel
  refine ⟨Or.inl rfl, Or.inr (Or.inl (by decide +kernel)), Or.inr (Or.inr ⟨_, _, h.1, fun d e => ?_, .headL, by decide,
    by unfold State.Ready; decide +kernel⟩), h.2⟩
  rw [h.2] at e
  exact Option.some.inj e ▸ by decide

/-- A sample of HEAD_L stamped at the crossing time of the only waiting point leaves it waiting; one stamped 1 µs later
forms it, the other sources being ABSENT. -/
theorem witness_HeadSamplesFormThePoint :
    (∀ n ∈ [1999, 1998], ((lateHead n).unit .headL).state = .live ∧ (lateHead n).run.state = .running ∧
      (lateHead n).grid.waiting.map (·.crossing) = [3000] ∧ (lateHead n).intake.queueL = [] ∧
      ((lateHead n).unit .headL).prevStamp = some 3000 ∧ (lateHead n).now - n ≤ 3001) ∧
    (∀ d ∈ [Source.headR, .inertial], ((lateHead 1998).unit d).state ≠ .live) ∧
    ([1999, 1998].map fun n =>
      let s := updateUnit .headL (fun u => { u with prevStamp := some 2999 }) (lateHead n)
      let t := stateOf (exec (.sensorFrameArrival .headL headFrame) s)
      (t.store.f, t.intake.queueL.map (·.stamp))) = [(none, [3000]), (some 0, [3001])] := by decide +kernel

/-- Each premise: idle, MARKER, no point waiting, another LIVE source without a sample after the point, and one point that
only the source holds up, the other having no sample after it, or one at the point's own time. -/
theorem witness_SourcesGoStale :
    (base.unit .marker).state ≠ .live ∧
      (∀ x ∈ [(Source.headL, waitingAt .headL base), (.marker, waitingAt .marker waitingRun),
          (.headR, waitingAt .headR begun), (.headR, waitingAt .headR waitingRun),
          (.headL, waitingAt .headL waitingRun)],
        (x.2.unit x.1).state = .live ∧ (x.2.unit x.1).deadline = some 4999 ∧ 4999 ≤ x.2.now) ∧
      (waitingAt .headL base).run.state = .idle ∧ (waitingAt .headR begun).grid.waiting = [] ∧
      (let s := waitingAt .headR waitingRun
       s.run.state = .running ∧ s.grid.waiting.map (·.crossing) = [3000] ∧ (s.unit .headL).state = .live ∧
         s.intake.queueL = [] ∧ s.grid.deadline = some 5000 ∧ (s.unit .inertial).state ≠ .live) ∧
      ([waitingAt .headR waitingRun, waitingAt .headL waitingRun, waitingAt .headL (withLive .headR 9000 none waitingRun),
        waitingAt .headL (withLive .headR 9000 none { waitingRun with intake :=
          { waitingRun.intake with queueR := [⟨3000, ⟨0, 0⟩, false⟩] } }),
        waitingAt .headL (withLive .headR 9000 none { waitingRun with intake :=
          { waitingRun.intake with queueR := [⟨3001, ⟨0, 0⟩, false⟩] } })].zipWith
          (fun s c => (stateOf (exec (.sourceStaleDeadline c) s)).store.f) [.headR, .headL, .headL, .headL, .headL]) =
        [none, some 0, none, none, some 0] := by decide +kernel

/-- A run with a marker 9 in the table, in a location state. -/
def markerRun (st : LocState) (m : Int) : State :=
  { begun with pos := { begun.pos with state := st, markers := [(9, m)] } }

/-- A FIXED run whose target offset stands at the top of its range. -/
def topRun : State :=
  { begun with pos := { begun.pos with
      state := .fixed, base := -1, target := 2147483647, markers := [(8, 2147483646), (9, 2147483647)] } }

/-- R121: a read in IDLE, one stamped 1 µs before the run, an ident that the table does not hold, and a read of the marker
of the last fix at capture_mm × 1000 µm from it; 1 µm further on the read is judged. -/
theorem witness_MarkerReadsAreScreened :
    (markerRun .fixed 1000).run.record.map (·.t0) = some 3000 ∧
    ([(0, 9, 3000, 0), (1, 9, 2999, 0), (1, 8, 3000, 0), (1, 9, 3000, 20000000), (1, 9, 3000, 20000001)].map
      fun (x : Nat × Nat × Nat × Int) =>
        let run := markerRun .fixed 21000
        let s := { run with
          run := { run.run with state := if x.1 = 0 then .idle else .running }
          pos := { run.pos with lastFix := some (9, 0) } }
        let t := (takeMarkerRead x.2.1 x.2.2.1 x.2.2.2 s).pos
        (t.idleReads, t.earlyReads, t.unknownReads, t.repeatReads, t.acceptedFixes)) =
      [(1, 0, 0, 0, 0), (0, 1, 0, 0, 0), (0, 0, 1, 0, 0), (0, 0, 0, 1, 0), (0, 0, 0, 0, 1)] := by decide +kernel

/-- The premises of the judgement and of the two parts after it; then the mismatch that reaches the limit, and in FIXED an offset that reaches the
end of its range and one that would leave it (R126). -/
theorem witness_MarkerReadsMoveThePosition :
    (∀ st ∈ [LocState.unfixed, .fixed, .doubtful], ∀ m ∈ [(1000 : Int), 21000, 21001, 2147483647],
      let s := markerRun st m
      s.run.state ≠ .idle ∧ (∃ r ∈ s.run.record, r.t0 ≤ 3000) ∧ markerChainage 9 s.pos.markers = some m ∧
        s.pos.lastFix = none) ∧
      distanceAt begun.odo.history 3000 = 0 ∧ begun.pos.base = 1000 ∧ begun.run.settings.captureMm = 20000 ∧
      begun.run.settings.mismatchLimit = 3 ∧
      ([1, 2].map fun n =>
        let s := markerRun .fixed 21001
        (takeMarkerRead 9 3000 0 { s with pos := { s.pos with mismatch := n } }).pos.state) = [.fixed, .doubtful] ∧
      ([8, 9].map fun i => ((takeMarkerRead i 3000 0 topRun).pos.target, (takeMarkerRead i 3000 0 topRun).pos.outOfRange))
        = [(2147483647, 0), (2147483647, 1)] ∧
      (let s := liveSource .marker (some 5000)
       (s.unit .marker).linkUp = true ∧ (s.unit .marker).state = .live ∧ s.run.settings.latencyM = 0 ∧
         ∀ l ∈ TachLine.all, (s.odo.lines.get l).due s.run.settings.glitchUs s.now = false) ∧
      (TachLine.all.map fun l => let s := pulseRun 0 0 false 3050 false .t1
        (s.odo.lines.get l).due s.run.settings.glitchUs s.now) = [true, false, false, false] := by
  decide +kernel

theorem witness_AlignDeadlineFormsThePoint :
    let s := { waitingRun with now := 5000 }
    s.run.state = .running ∧ s.grid.waiting.length = 1 ∧ s.grid.deadline = some 5000 ∧ 5000 ≤ s.now := by
  decide +kernel

/-- Two points wait for a later sample of HEAD_L, the second created at the time given; align_wait_us is 2000. -/
def twoWaiting (crossing now : Nat) : State :=
  { waitingRun with
    now
    grid := { waitingRun.grid with waiting :=
      waitingRun.grid.waiting ++ [{ index := 1, crossing, speed := 5, afterBacktrack := false }] } }

/-- At the deadline of the first point, the second waits one count before its own deadline, and is formed with the first
at its own deadline or where HEAD_L is satisfied. -/
theorem witness_AlignDeadlineFormsTheNextPoint :
    (∀ s ∈ [twoWaiting 3100 5099, twoWaiting 3100 5100], s.run.state = .running ∧
      s.grid.waiting.map (fun c => (c.index, c.crossing)) = [(0, 3000), (1, 3100)] ∧ s.grid.deadline = some 5000 ∧
      s.run.settings.alignWaitUs = 2000 ∧ (s.unit .headL).state = .live ∧ s.intake.queueL = []) ∧
    ([twoWaiting 3100 5099, twoWaiting 3100 5100].map fun s =>
      let t := stateOf (exec .alignDeadline s)
      (t.store.f, t.grid.waiting.map (·.index), t.grid.deadline)) =
      [(some 0, [1], some 5100), (some 1, [], none)] := by
  decide +kernel

/-- R76: with half-chords 4 and 5, the raw point 600 gives LEVEL to point 596 and ALIGN to point 595. -/
theorem test_versines_placed :
    let s : State := { begun with
      run := { begun.run with settings := { begun.run.settings with levelHalf := 4, alignHalf := 5 } },
      store := { begun.store with slots := [595, 596, 600].map fun k =>
        (k, newPoint k 0 9000000 50000 .normal .unfixed false false) },
      geo := { begun.geo with low := .outside, chord := (List.range 10).map fun i => chord (590 + i) 0 .clear false } }
    let t := geoRawPoint point600 s
    [595, 596, 600].map (fun k => (t.store.point k).map fun x => (x.statuses.levelL, x.statuses.alignL)) =
      [some (.void, .good), some (.good, .void), some (.void, .void)] := by
  decide +kernel

theorem test_marks :
    ([(.good, false, false), (.held, false, false), (.void, false, false), (.good, true, false),
      (.held, false, true)].map fun (x : Status × Bool × Bool) =>
        integMark false false x.2.1 { point600 with statusI := x.1, clampI := x.2.2 }) =
      [.clear, .held, .held, .clamped, .clamped] := by decide

theorem witness_SourceReadFollowsItsBrackets :
    let e (t : Nat) : Entry InertialVals := { stamp := t, vals := ⟨1, 2, 3, 4, 5⟩, clamp := false }
    [e 10, e 20].Pairwise (fun a b => a.stamp < b.stamp) ∧ (e 10).stamp ≤ 10 ∧ 19 < (e 20).stamp ∧
      min 65535 (7 + 1) ≤ 8 ∧ 8 < min 65535 (8 + 1) := by decide

/-- A run whose slot 600 holds point 600, with a cant history of one entry. -/
def cantRun (index : Nat) : State :=
  { begun with
    store := { begun.store with slots := [(600, newPoint 600 0 9000000 50000 .normal .unfixed false false)] },
    geo := { begun.geo with cants := [⟨index, 2410, .good⟩] } }

/-- The premises, and TWIST of 4.6 with the entry 12 points before in the history and without it. -/
theorem witness_RawPointGivesItsParameters :
    (∀ i ∈ [587, 588, 589], let s := cantRun i
      (s.store.point 600).isSome = true ∧ s.run.settings.twistBase = 12 ∧ (∀ b ∈ s.geo.cants, b.index < 600) ∧
        s.geo.cants.Pairwise fun a b => a.index < b.index) ∧
      ([587, 588, 589].map fun i => ((geoPoint point600 false (cantRun i)).store.point 600).map fun x =>
        (x.values.cant, x.values.twist, x.statuses.twist)) =
        [some (3753, 0, .void), some (3753, 1343, .good), some (3753, 0, .void)] ∧
      (begun.store.point 0).isSome = true ∧ begun.store.point 1 = none ∧
      ([(32767, 0), (32767, 1), (-32768, 0), (-32768, -1)].map fun (x : Int × Int) =>
        (geoPoint { point600 with headL := ⟨x.1, 0⟩, headR := ⟨x.2, 0⟩ } false (cantRun 587)).geo.valueClamps.get .gauge) =
        [0, 1, 0, 1] := by
  decide +kernel

theorem witness_VersinesFollowTheChord :
    let h := [chord 580 1235000 .clear false, chord 600 3141500 .clear false, chord 620 998200 .clear false]
    (⟨.levelL, true, true⟩ : VersineKind) ∈ levelKinds ++ alignKinds ∧ h.Pairwise (fun x y => x.index < y.index) ∧
      (h.map (·.index)) = [600 - 20, 600, 600 + 20] ∧
      ([327670000, 327675000].map fun z => versineAt
        [chord 580 0 .clear false, chord 600 z .clear false, chord 620 0 .clear false] 600 20 ⟨.levelL, true, true⟩) =
        [⟨32767, .good, false⟩, ⟨32767, .clamped, true⟩] ∧
      ([19, 20].map fun j => versineAt
        ([0, 19, 20, 39, 40].map fun k => chord k 0 .clear false) j 20 ⟨.levelL, true, true⟩) =
        [⟨0, .void, false⟩, ⟨0, .good, false⟩] := by decide

/-- A section of class 3 from 0 to 9 mm and one of class 4 from 10 to 19 mm. -/
def twoSections : List SectionEntry :=
  [{ id := 1, start := 0, stop := 10, trackClass := 3, mask := some 0x0F#8, label := none },
    { id := 2, start := 10, stop := 20, trackClass := 4, mask := none, label := none }]

/-- A run with an open record of GAUGE, high, at level 1 from point 0, and a clean count. -/
def openRun (clean : Nat) : State :=
  { begun with exm := { begun.exm with
      nextId := 2,
      records :=
        [{ id := 1, param := .gauge, side := .high, level := 1, startIndex := 0, startChainage := 0, peakValue := 400,
           peakIndex := 0, sectionId := 0, closing := none, continued := false, urgency := .notUrgent }],
      groups := begun.exm.groups.set .gauge
        { current := some { id := 1, side := .high, lastIndex := 5, lastChainage := 6 }, clean, lengthMark := none } } }

/-- A run with 256 closed records, of an urgent state and a level. -/
def fullRun (u : UrgentState) (level : Nat) : State :=
  { begun with exm := { begun.exm with
      nextId := 257, urgent := decide (u = .unacked),
      records := (List.range 256).map fun i =>
        { id := i + 1, param := .gauge, side := .high, level, startIndex := 0, startChainage := 0, peakValue := 400,
          peakIndex := 0, sectionId := 0, closing := some ⟨.below, 0, 0⟩, continued := false, urgency := u } } }

theorem groups_begun (p : Param) : begun.exm.groups.get p = Group.reset := by cases p <;> decide +kernel

theorem openRun_inv (clean : Nat) : ExmInv (openRun clean).exm where
  capacity := by show [_].length ≤ 256; decide
  ordered := by simp [openRun]
  below r h := by simp only [openRun, List.mem_singleton] at h ⊢; subst h; decide
  ok r h := by simp only [openRun, List.mem_singleton] at h; subst h; exact ⟨by decide, by decide, by decide⟩
  urgent := by
    have h : begun.exm.urgent = false := by decide +kernel
    simp [openRun, h]
  held p g h := by
    by_cases hp : p = .gauge
    · subst hp
      simp only [openRun, PerParam.get_set, Option.some.injEq] at h
      subst h
      simp [openRun]
    · have hg := groups_begun p
      simp only [openRun, PerParam.get_set_of_ne _ _ hp] at h
      simp [hg, Group.reset] at h
  opened r h _ := by
    simp only [openRun, List.mem_singleton] at h; subst h
    exact ⟨_, rfl, rfl⟩

theorem fullRun_inv (u : UrgentState) (level : Nat) (h1 : 1 ≤ level) (h3 : level ≤ 3)
    (hu : u ≠ .notUrgent ↔ level = 3) : ExmInv (fullRun u level).exm where
  capacity := by simp [fullRun, recordCapacity]
  ordered := by
    simp only [fullRun]
    rw [List.pairwise_map]
    exact List.pairwise_lt_range.imp fun h => Nat.succ_lt_succ h
  below r h := by
    simp only [fullRun, List.mem_map, List.mem_range] at h ⊢
    obtain ⟨i, hi, rfl⟩ := h
    exact Nat.succ_lt_succ hi
  ok r h := by
    simp only [fullRun, List.mem_map] at h
    obtain ⟨i, -, rfl⟩ := h
    exact ⟨h1, h3, hu⟩
  urgent := by
    simp only [fullRun, decide_eq_true_eq, List.mem_map, List.mem_range]
    exact ⟨fun h => ⟨_, ⟨0, by decide, rfl⟩, h⟩, fun ⟨_, ⟨_, _, hr⟩, h⟩ => by subst hr; exact h⟩
  held p g h := by have := groups_begun p; simp [fullRun, this, Group.reset] at h
  opened r h hc := by
    simp only [fullRun, List.mem_map] at h
    obtain ⟨i, -, rfl⟩ := h
    cases hc

/-- The premises of the three parts; point 1 is in no slot. -/
theorem witness_CompletionMakesThePointReadable :
    (begun.store.point 0).isSome = true ∧ (openRun 1).store.point 1 = none ∧ twoSections.Pairwise (fun a b => a.stop ≤ b.start) ∧
      ExmInv (openRun 1).exm ∧ ExmInv (openRun 2).exm ∧ ExmInv (fullRun .unacked 3).exm ∧
      ExmInv (fullRun .notUrgent 1).exm ∧ ¬(fullRun .unacked 3).exm.HasPlace ∧ (fullRun .notUrgent 1).exm.HasPlace ∧
      (openRun 1).exm.HasPlace := by
  refine ⟨by decide +kernel, by decide +kernel, by decide, openRun_inv 1, openRun_inv 2, fullRun_inv _ _ (by decide) (by decide) (by decide),
    fullRun_inv _ _ (by decide) (by decide) (by decide), ?_, Or.inr ⟨_, List.mem_map.2 ⟨0, by decide, rfl⟩, ?_⟩,
    Or.inl (by show [_].length < 256; decide)⟩
  · rintro (h | ⟨r, h, -, h2⟩)
    · simp [fullRun, recordCapacity] at h
    · simp only [fullRun, List.mem_map] at h
      obtain ⟨i, -, rfl⟩ := h
      exact h2 rfl
  · decide

/-- R136: the lookup at the ends of the sections. -/
theorem test_classify : ([-1, 0, 9, 10, 19, 20].map fun c => (classify 7 twoSections c).sectionId) = [0, 1, 1, 2, 2, 0] ∧
    (classify 7 twoSections 20).trackClass = 7 := by decide

/-- R157 to R159: a record of 400 points closes at point 399 and not at 398; two points within gap_tol are bridged, the
third closes the record at its last exceeding point. R153, R171: a lost point closes it with VOID, the end of the run with
RUN_END. -/
theorem test_grouping :
    let closed (s : State) : List (Option Closing) := s.exm.records.map (·.closing)
    ([398, 399].map fun i => closed (applyOutcome .gauge (.exceeds 2 .high) 500 ⟨i, 7, 0⟩ (openRun 0))) =
        [[none], [some ⟨.length, 399, 7⟩]] ∧
      ([1, 2].map fun n => closed (applyOutcome .gauge .within 0 ⟨9, 7, 0⟩ (openRun n))) =
        [[none], [some ⟨.below, 5, 6⟩]] ∧
      closed (applyOutcome .gauge (.exceeds 1 .low) (-400) ⟨6, 7, 0⟩ (openRun 0)) = [some ⟨.side, 5, 6⟩, none] ∧
      closed (completePoint 1 (openRun 0)) = [some ⟨.void, 5, 6⟩] ∧
      closed (closeAllRunEnd (openRun 0)) = [some ⟨.runEnd, 5, 6⟩] := by
  decide +kernel

/-- PORT1 in a state with requests waiting, after a frame of a kind, with bits of its first byte inverted: the state, the
requests that wait, the two drop counts and the link errors. -/
def frameAt (st : PortState) (waiting : Nat) (kind flip : Byte) : PortState × List Nat × BitVec 7 :=
  let bytes := frameBytes kind 0#8 0#2 []
  let s := base.setPort .p1 { client with state := st, inbox := List.replicate waiting (req .echo []) }
  let q := (stateOf (exec (.clientFrameArrival .p1 (bytes.set 0 (bytes.getD 0 0#8 ^^^ flip))) s)).port .p1
  (q.state, [q.inbox.length, q.inboxDrops, q.barredDrops], q.linkErrors)

/-- A REJOIN frame, clean and with a header bit inverted, at a port in each state, with three and with four requests
waiting; and a frame of another kind in BARRED and SILENT. -/
theorem witness_ValidClientFramesEnterTheInbox :
    (receive (frameBytes 0x10#8 0#8 0#2 [])).result.toOption =
        some { kind := 0x10#8, tag := 0#8, seq := 0#2, payload := [] } ∧
      frameAt .active 3 0x10#8 0#8 = (.active, [4, 0, 0], 0#7) ∧
      frameAt .active 4 0x10#8 4#8 = (.active, [4, 1, 0], 0x21#7) ∧
      frameAt .barred 0 0x10#8 0#8 = (.active, [1, 0, 0], 0#7) ∧
      frameAt .barred 0 0x11#8 4#8 = (.barred, [0, 0, 1], 0x01#7) ∧
      frameAt .silent 0 0x11#8 0#8 = (.active, [1, 0, 0], 0#7) := by decide +kernel

theorem witness_BadClientFramesCanBarThePort :
    let s := base.setPort .p1 { client with badRun := 3 }
    (receive []).result.toOption = none ∧ (s.port .p1).state = .active ∧
      s.run.settings.badFrameLimit ≤ (s.port .p1).badRun + 1 ∧ s.svc.holder ≠ some .p1 ∧ s.svc.claimant ≠ some .p1 ∧
      s.run.pendingEnd = none ∧ (base.port .p1).badRun + 1 < base.run.settings.badFrameLimit ∧
      (stateOf (exec (.clientLinkUp .p2) base)).ports.p2.state = .silent := by decide +kernel

theorem witness_LinkReportsAndPresence :
    (base.port .p2).state = .offline ∧ (base.port .p1).state = .active ∧ base.svc.holder ≠ some .p1 ∧
      base.svc.claimant ≠ some .p1 ∧ base.run.pendingEnd = none ∧ (base.port .p1).Ok (base.stream .p1) ∧
      (base.port .p1).presenceAt = some 503000 := by
  refine ⟨by decide, by decide, by decide, by decide, by decide, ?_, by decide⟩
  exact ⟨by decide, by decide, by decide, by decide, by decide, by decide, fun _ => rfl, fun h => absurd rfl h,
    fun h => (nomatch h)⟩

/-- A state in which no request stays in service and no claim is pending. -/
theorem service_of {s : State} (h1 : ∀ p, (s.port p).inService = none) (h2 : s.run.pendingEnd = none)
    (h3 : s.svc.claimant = none ∧ s.svc.yieldAt = none) (h4 : ∀ p, reservedSlots (s.port p).replies = 0)
    (h5 : ∀ p, (s.port p).state ≠ .active → (s.port p).inbox = [])
    (h6 : ∀ p, s.svc.holder = some p → (s.port p).state = .active) : ServiceInv s where
  reserved p := by simp [h1, h4]
  endRun p tag := by simp [h1, h2]
  claim p := by simp [h1, h3]
  quiet p h := ⟨h5 p h, h1 p⟩
  holder := h6
  claimant p h := by simp [h3] at h
  deadline := by simp [h3]

theorem base_service : ServiceInv base :=
  service_of (fun p => by cases p <;> rfl) rfl ⟨rfl, rfl⟩ (fun p => by cases p <;> rfl) (fun p => by cases p <;> decide)
    (fun p => by cases p <;> decide)

/-- The requests in service and authority of `claimed` are consistent. -/
theorem claimed_service : ServiceInv claimed := by
  have hi : ∀ p, (claimed.port p).inService = if p = .p1 then some (.claim 7#8) else none := by
    intro p; cases p <;> decide +kernel
  have hc : claimed.svc = { holder := some .p0, claimant := some .p1, yieldAt := some 1003000 } := by decide +kernel
  have he : claimed.run.pendingEnd = none := by decide +kernel
  refine ⟨fun p => by cases p <;> decide +kernel, fun p tag => ?_, fun p => ?_, fun p h => ?_, fun p h => ?_,
    fun p h => ?_, by decide +kernel⟩
  · rw [hi, he]; split <;> simp
  · rw [hi, hc]; cases p <;> simp
  · revert h; cases p <;> decide +kernel
  · revert h; cases p <;> decide +kernel
  · revert h; cases p <;> decide +kernel

/-- PORT0 has sent END_RUN while point 0 waits, and then PORT1 holds authority. -/
def ending : State :=
  { stateOf (exec (.endRun .p0) (State.asked waitingRun .p0 (req .endRun []))) with
    svc := { Svc.reset with holder := some .p1 } }

/-- The last point of the run waits in FINISHING for its deadline at 5000; its formation ends the run and answers
END_RUN with W = 0 and one TAIL point. -/
theorem witness_AlignDeadlineEndsTheRun :
    let s := { ending with now := 5000 }
    (s.run.state = .finishing .forming ∧ s.grid.waiting.map (·.index) = [0] ∧ s.grid.deadline = some 5000 ∧
      s.store.w = some 0 ∧ s.store.f = none ∧ s.store.c = behind none s.run.settings.mMax) ∧
    (let t := stateOf (exec .alignDeadline s)
     t.run.state = .idle ∧ t.store.c = some 0 ∧ (t.store.point 0).map (·.tail) = some true ∧
       (t.port .p0).replies.getLast? = some (.frame { kind := .reply, tag := 7#8, rest := [1#32, 0#32, 1#32] })) := by
  decide +kernel

theorem ending_service : ServiceInv ending := by
  have hi : ∀ p, (ending.port p).inService = if p = .p0 then some (.endRun 7#8) else none := by
    intro p; cases p <;> decide +kernel
  have he : ending.run.pendingEnd = some (.p0, 7#8) := by decide +kernel
  refine ⟨fun p => by cases p <;> decide +kernel, fun p tag => ?_, fun p => ?_, fun p h => ?_, fun p h => ?_,
    fun p h => ?_, by decide +kernel⟩
  · rw [hi, he]; cases p <;> simp
  · rw [hi]; cases p <;> simp [ending, Svc.reset]
  · revert h; cases p <;> decide +kernel
  · revert h; cases p <;> decide +kernel
  · revert h; cases p <;> decide +kernel

/-- A waiting request changes nothing of the requests in service and of authority. -/
theorem asked_service {s : State} {p : PortId} {r : Request} (h : ServiceInv s) (ha : (s.port p).state = .active) :
    ServiceInv (State.asked s p r) := by
  have hp : ∀ j, (State.asked s p r).port j = { s.port j with inbox := if j = p then [r] else (s.port j).inbox } := by
    intro j
    by_cases hj : j = p
    · subst hj; simp [State.asked]
    · simp [State.asked, State.port_setPort_of_ne, hj]
  have hr : (State.asked s p r).run = s.run ∧ (State.asked s p r).svc = s.svc := ⟨rfl, rfl⟩
  refine ⟨fun j => ?_, fun j tag => ?_, fun j => ?_, fun j hj => ?_, fun j hj => ?_, fun j hj => ?_, h.deadline⟩
  · rw [hp]; exact h.reserved j
  · rw [hp]; exact h.endRun j tag
  · rw [hp]; exact h.claim j
  · rw [hp] at hj ⊢
    have : j ≠ p := fun e => hj (by rw [e]; exact ha)
    simpa [this] using h.quiet j hj
  · rw [hp]; exact h.holder j hj
  · exact h.claimant j hj

/-- `base` at PORT0's presence deadline, and `base` with PORT0 one bad frame before its bar. -/
def dueBase : State := { base with now := 503000 }
def barBase : State := base.setPort .p0 { client with badRun := 3 }

theorem dueBase_service : ServiceInv dueBase :=
  service_of (fun p => by cases p <;> rfl) rfl ⟨rfl, rfl⟩ (fun p => by cases p <;> rfl) (fun p => by cases p <;> decide)
    (fun p => by cases p <;> decide)

theorem barBase_service : ServiceInv barBase :=
  service_of (fun p => by cases p <;> rfl) rfl ⟨rfl, rfl⟩ (fun p => by cases p <;> rfl) (fun p => by cases p <;> decide)
    (fun p => by cases p <;> decide)

/-- The holder without a claim, the holder with one, the claimant, a port that is neither and one whose END_RUN is
pending; at the presence deadline, and at the bar. -/
theorem witness_PortLossSettlesAuthority :
    (ServiceInv base ∧ (base.port .p0).state = .active ∧ base.svc.holder = some .p0 ∧ base.svc.claimant = none) ∧
      (ServiceInv claimed ∧ (claimed.port .p0).state = .active ∧ (claimed.port .p1).state = .active ∧
        claimed.svc.holder = some .p0 ∧ claimed.svc.claimant = some .p1 ∧
        (claimed.port .p1).inService = some (.claim 7#8)) ∧
      (ServiceInv ending ∧ (ending.port .p0).state = .active ∧ ending.run.pendingEnd = some (.p0, 7#8) ∧
        ending.svc.holder ≠ some .p0 ∧ ending.svc.claimant ≠ some .p0) ∧
      (ServiceInv dueBase ∧ (dueBase.port .p0).presenceAt = some 503000 ∧ 503000 ≤ dueBase.now) ∧
      ServiceInv barBase ∧ (barBase.port .p0).state = .active ∧
      (match (receive []).result with | .ok _ => False | .error e => e = .byteCount) ∧
      barBase.run.settings.badFrameLimit ≤ (barBase.port .p0).badRun + 1 := by
  refine ⟨⟨base_service, ?_⟩, ⟨claimed_service, ?_⟩, ⟨ending_service, ?_⟩, ⟨dueBase_service, ?_⟩, barBase_service, ?_⟩
  · decide
  · decide +kernel
  · decide +kernel
  · decide
  · exact ⟨by decide, rfl, by decide⟩

theorem witness_TransmitterTakesAnswersFirst :
    (begun.port .p0).state = .active ∧ (begun.port .p0).sending = none ∧ 2000 ≤ begun.now ∧
      (begun.port .p0).replies.length = 1 ∧ reservedSlots (begun.port .p0).replies = 0 ∧
      (begun.port .p1).replies = [] ∧ (begun.port .p1).notices.length = 1 ∧ begun.stream .p1 = none := by
  decide +kernel

theorem witness_YieldDeadlineGrantsTheClaim :
    claimed.svc.claimant = some .p1 ∧ claimed.svc.yieldAt = some 1003000 ∧
      1003000 ≤ ({ claimed with now := 1003000 } : State).now ∧ (claimed.port .p1).inService = some (.claim 7#8) := by
  decide +kernel

theorem witness_ClaimFollowsItsSituation :
    (Serves .claim .p0 (req .claim []) [] (asked .claim []) ∧ (asked .claim []).svc.holder = some .p0) ∧
      (let s : State := { asked .claim [] with svc := Svc.reset }
       (s.port .p0).inbox = [req .claim []] ∧ s.svc.holder = none) ∧
      (let s := State.asked base .p1 (req .claim [])
       Serves .claim .p1 (req .claim []) [] s ∧ s.svc.holder = some .p0 ∧ s.svc.claimant = none) ∧
      (State.asked claimed .p2 (req .claim [])).svc.claimant = some .p1 :=
  ⟨⟨serves_base _ _, by decide⟩, by decide, ⟨serves_asked (by decide) (by decide) (by decide), by decide, by decide⟩,
    by decide +kernel⟩

theorem witness_YieldKeepAndRelease (k : RequestKind) :
    (Serves k .p0 (req k []) [] (asked k []) ∧ (asked k []).svc.holder = some .p0 ∧
        (asked k []).svc.claimant = none) ∧
      (Serves k .p1 (req k []) [] (State.asked base .p1 (req k [])) ∧
        (State.asked base .p1 (req k [])).svc.holder ≠ some .p1) ∧
      Serves k .p0 (req k []) [] (State.asked claimed .p0 (req k [])) ∧ claimed.svc.holder = some .p0 ∧
      claimed.svc.claimant = some .p1 ∧ (claimed.port .p1).inService = some (.claim 7#8) :=
  ⟨⟨serves_base _ _, rfl, rfl⟩, ⟨serves_asked (by decide) (by decide) (by decide), by simp [State.asked, base]⟩,
    serves_asked (by decide +kernel) (by decide +kernel) (by decide +kernel), by decide +kernel, by decide +kernel,
    by decide +kernel⟩

/-- Every statement on a request of PORT0 that any port may send, or that the holder sends in IDLE or in RUNNING. -/
theorem witness_requests (k : RequestKind) (w : List Word) :
    (Serves k .p0 (req k w) [] (asked k w) ∧ (asked k w).svc.holder = some .p0 ∧ (asked k w).run.state = .idle ∧
        (asked k w).stream .p0 = none ∧ (asked k w).store.w = none) ∧
      Serves k .p0 (req k w) [] (askedIn k w) ∧ (askedIn k w).svc.holder = some .p0 ∧
      (askedIn k w).run.state = .running ∧ (askedIn k w).store.w = some 0 ∧ (askedIn k w).stream .p0 = none := by
  refine ⟨⟨serves_base _ _, rfl, rfl, rfl, rfl⟩, serves_begun _ _, ?_⟩
  have h : begun.svc.holder = some .p0 ∧ begun.run.state = .running ∧ begun.store.w = some 0 ∧
    begun.stream .p0 = none := by decide +kernel
  exact h

theorem witness_SetLinkReplacesTheOptions :
    (¬(12 ≤ (11#32).toNat)) ∧ 12 ≤ (12#32).toNat ∧ (255#32).toNat ≤ 255 ∧ (7#32).toNat < 8 ∧ 8 ≤ (8#32).toNat ∧
      (4095#32).toNat < 4096 ∧ 4096 ≤ (4096#32).toNat := by decide

theorem witness_ReadStatusReportsAndEmptiesAttention :
    (∀ n, n < 7 → (BitVec.ofNat 32 n).toNat = n ∧ (BitVec.ofNat 32 n).toNat ≤ 6) ∧ 6 < (7#32).toNat ∧
      begun.grid.waiting = [] ∧ waitingRun.grid.waiting.map (·.index) = [0] := by
  decide +kernel

theorem witness_ReadTableReturnsTheTable : (7#32).toNat ≤ 7 ∧ 7 < (8#32).toNat ∧ 3 < (4#32).toNat := by decide

/-- A state whose frontiers W and C stand as given. -/
def withFrontiers (w c : Nat) (s : State) : State := { s with store := { s.store with w := some w, c := some c } }

theorem witness_ReadPointsReturnsTheWindow :
    let s := withFrontiers 5000 4980 (asked .readPoints [905#32, 905#32])
    s.store.c = some 4980 ∧ s.store.w = some 5000 ∧ 904 < 5000 - 4095 ∧ 5000 - 4095 ≤ 905 ∧ 905 ≤ 4980 ∧ 4980 < 4981 ∧
      (s.port .p0).inbox = [req .readPoints [905#32, 905#32]] ∧ (asked .readPoints [2#32, 1#32]).store.c = none := by
  decide

/-- A state with a stream of PORT0, and that port's notice queue as given. -/
def streaming (cursor : Nat) (remaining : Option Nat) (notices : Nat) (s : State) : State :=
  setStream .p0 (some { cursor, remaining, tag := 7#8, delivered := 0, lost := 0 })
    (s.setPort .p0 { s.port .p0 with
      notices := List.replicate notices { cls := .gap, tag := 0#8, payload := [] } })

/-- What becomes of a stream of PORT0: its cursor and remaining count, and how many notices wait. -/
def streamOf (s : State) : Option (Nat × Option Nat) × Nat :=
  ((s.stream .p0).map fun x => (x.cursor, x.remaining), (s.port .p0).notices.length)

/-- The premises; then a stream with C two points ahead (a frame of three points), with a count of 3 and of 4, at C and
above it, with 11 and with 12 notices waiting, in IDLE, and with the cursor at the oldest index or below it. -/
theorem witness_StreamsBeginAndStop :
    (askedIn .streamPoints [0xFFFFFFFF#32, 0#32]).store.c = none ∧
      (askedIn .streamPoints [0#32, 1#32]).store.w = some 0 ∧ 0 - 4095 ≤ 0 ∧
      (askedIn .streamPoints [0#32, 1#32]).run.state = .running ∧
      (asked .streamPoints [0#32, 1#32]).run.state = .idle ∧
      (let s := withFrontiers 5000 4980 (streaming 4978 (some 4) 11 begun)
       s.store.c = some 4980 ∧ s.store.w = some 5000 ∧ (s.port .p0).state = .active ∧
         (s.port .p0).options.maxReplyWords = 32 ∧ (s.port .p0).notices.length + 5 = 16 ∧
         (s.port .p0).sending = none ∧ reservedSlots (s.port .p1).replies = (s.port .p1).replies.length) ∧
      ([streaming 4978 (some 3) 0 begun, streaming 4978 (some 4) 0 begun, streaming 4980 none 0 begun,
        streaming 4981 none 0 begun, streaming 4978 none 11 begun, streaming 4978 none 12 begun,
        streaming 4980 none 0 base].map fun s => streamOf (streamBuild .p0 (withFrontiers 5000 4980 s))) =
        [(none, 2), (some (4981, some 1), 1), (some (4981, none), 1), (some (4981, none), 0), (some (4981, none), 12),
          (some (4978, none), 12), (none, 2)] ∧
      ([streaming 905 none 0 begun, streaming 904 none 12 begun, streaming 904 (some 1) 0 begun].map fun s =>
        streamOf (gapTest .p0 (withFrontiers 5000 4980 s))) =
        [(some (905, none), 0), (some (905, none), 13), (none, 2)] := by decide +kernel

/-- What becomes of PORT0's stream and its first notices when it asks in a state for a stream from an index on. -/
def streamFrom (n : Nat) (s : State) : Option (Nat × Option Nat) × List NoticeClass :=
  let t := stateOf (exec (.streamPoints .p0) (State.asked s .p0 (req .streamPoints [wordOfNat n, 0#32])))
  ((streamOf t).1, ((t.port .p0).notices.map (·.cls)).take 3)

/-- In IDLE with C at 5000, a stream from 5000 delivers that point and ends, and one from 5001 ends at once, each over an
older stream; in a run with C at 4980, one from 904 loses a point, and one from 4981 waits. -/
theorem witness_StreamsBeginOverStreams :
    streamFrom 5000 (withFrontiers 5000 5000 (streaming 4978 none 0 base)) = (none, [.streamEnd, .points, .streamEnd]) ∧
      streamFrom 5001 (withFrontiers 5000 5000 (streaming 4978 none 0 base)) = (none, [.streamEnd, .streamEnd]) ∧
      streamFrom 904 (withFrontiers 5000 904 (setStream .p0 none begun)) = (some (905, none), [.run, .gap]) ∧
      streamFrom 4981 (withFrontiers 5000 4980 (streaming 4978 none 0 begun)) = (some (4981, none), [.streamEnd]) := by
  decide +kernel

/-- A run with one record of id 1, of an urgent state. -/
def withRecord (u : UrgentState) (level : Nat) : State :=
  { begun with exm := { begun.exm with nextId := 2, urgent := decide (u = .unacked), records :=
    [{ id := 1, param := .gauge, side := .high, level, startIndex := 0, startChainage := 0, peakValue := 400,
       peakIndex := 0, sectionId := 0, closing := some ⟨.below, 0, 0⟩, continued := false, urgency := u }] } }

theorem witness_AckUrgentAcknowledges :
    (∀ u ∈ [(UrgentState.unacked, 3), (.acked, 3), (.notUrgent, 1)],
      (findRecord 1 (withRecord u.1 u.2).exm.records).map (·.urgency) = some u.1) ∧
      (∀ x ∈ (withRecord .unacked 3).exm.records, x.id ≠ (2#32).toNat) := by decide +kernel

theorem witness_RefusalsBeforeTheOwningBlock :
    (∀ k : Byte, (State.asked base .p0 { kind := k, tag := 7#8, payload := [] }).port .p0 =
        { client with inbox := [{ kind := k, tag := 7#8, payload := [] }] }) ∧
      (0x00#8).toNat = 0 ∧ 28 < (0x1D#8).toNat ∧ base.svc.holder ≠ some .p1 ∧ (List.replicate 33 0#32).length > 32 ∧
      6 ≤ (List.replicate 6 0#32).length :=
  ⟨fun _ => rfl, by decide, by decide, by decide, by decide, by decide⟩

/-- The defaults and both ends of every range pass; a value 1 below the last range does not. At count 3000 a load of
glitch_us 3 validates a candidate of 2997, which glitch_us 4 had not, and leaves one of 2998. -/
theorem witness_LoadSettingsReplacesTheRecord :
    let ok (l : List Nat) (n : Nat) : Prop :=
      (settingRanges.getD n (0, 0)).1 ≤ l.getD n 0 ∧ l.getD n 0 ≤ (settingRanges.getD n (0, 0)).2
    let good := Settings.default.fields
    (∀ l ∈ [good, settingRanges.map (·.1), settingRanges.map (·.2)], ∀ n, n < 32 → ok l n) ∧
      ¬ok (good.set 31 99) 31 ∧ (∀ n, n < 31 → ok (good.set 31 99) n) ∧
      (good.map wordOfNat).map (·.toNat) = good ∧
      (let s := State.asked (withLine ⟨true, false, some 2997⟩ base) .p0
        (req .loadSettings ((good.set 5 3).map wordOfNat))
       let t := stateOf (exec (.loadSettings .p0) s)
       (s.odo.lines.get .t1A).due 4 s.now = false ∧ t.odo.lines.get .t1A = ⟨true, true, none⟩) ∧
      (let s := State.asked (withLine ⟨true, false, some 2998⟩ base) .p0
        (req .loadSettings ((good.set 5 3).map wordOfNat))
       (stateOf (exec (.loadSettings .p0) s)).odo.lines.get .t1A = ⟨true, false, some 2998⟩) := by
  decide +kernel

theorem witness_LoadThresholdsReplacesOneClass :
    limitOk (List.replicate 25 0#32) 47 = true ∧ limitOk (7#32 :: List.replicate 24 0x7FFF#32) 0 = true ∧
      limitOk (7#32 :: List.replicate 24 0x8000#32) 0 = false ∧
      limitOk (7#32 :: List.replicate 24 0x00010001#32) 1 = false := by decide

/-- The six first words of a SECTION_PUT, and the words of a label. -/
def putWords (id : Nat) (start stop : Int) (cls : Nat) (mask len : Word) (label : List Word) : List Word :=
  [wordOfNat id, wordOfInt start, wordOfInt stop, wordOfNat cls, mask, len] ++ label

/-- A payload at each side of the seven checks of R138, in their order; then the horizon of R140. -/
theorem witness_SectionPutInsertsOrReplaces :
    let absent := Word.absent
    let checked (w : List Word) : Option (Reason × Nat) := match parseSection w with
      | .ok _ => none
      | .error x => some x
    ([putWords 0 0 1 0 absent absent [], putWords 1 0 1 0 absent absent [], putWords 65535 0 1 0 absent absent [],
      putWords 65536 0 1 0 absent absent [], putWords 1 0 1 7 absent absent [], putWords 1 0 1 8 absent absent [],
      putWords 1 0 1 0 255#32 absent [], putWords 1 0 1 0 256#32 absent [], putWords 1 0 1 0 absent 0#32 [],
      putWords 1 0 1 0 absent 17#32 [0x20202020#32, 0x20202020#32, 0x20202020#32, 0x20202020#32],
      putWords 1 0 1 0 absent 16#32 [0x20202020#32, 0x20202020#32, 0x20202020#32, 0x7E202020#32],
      putWords 1 0 1 0 absent 4#32 [], putWords 1 0 1 0 absent 5#32 [0x20202020#32, 0x0000001F#32],
      putWords 1 0 1 0 absent 5#32 [0x7F202020#32, 0x00000020#32], putWords 1 1 1 0 absent absent []].map checked) =
      [some (.range, 1), none, none, some (.range, 1), none, some (.range, 4), none, some (.range, 5), none,
        some (.range, 6), none, some (.badPayload, 0), some (.range, 8), some (.range, 7), some (.range, 3)] ∧
      (parseSection (putWords 1 201000 201001 1 absent absent [])).toOption.isSome = true ∧
      begun.pos.lastChainage = some 1000 ∧ begun.pos.sense = .rising ∧ ¬(201000 : Int) < 1000 + 200000 ∧
      (200999 : Int) < 1000 + 200000 := by
  decide +kernel

theorem witness_SectionDropAndClear :
    let e : SectionEntry := { id := 1, start := 0, stop := 1, trackClass := 1, mask := none, label := none }
    findSection 1 [e] = some e ∧ findSection 2 [e] = none := by decide

theorem witness_MarkerEdits :
    [((1 : Nat), (0 : Int)), (5, 0)].Pairwise (fun a b => a.1 < b.1) ∧
      ((List.range 512).map fun i => (i, (0 : Int))).length = 512 ∧
      ((List.range 512).map fun i => (i, (0 : Int))).Pairwise (fun a b => a.1 < b.1) := by
  refine ⟨by decide, by simp, ?_⟩
  rw [List.pairwise_map]
  exact List.pairwise_lt_range

/-- START_RUN's fields at their bounds; a run whose point 0 waits and one whose point 0 is formed at once; the settings. -/
theorem witness_StartRunBeginsARun :
    (let c := (asked .startRun [1#32, 1#32, 0#32]).run.settings
     4 ≤ c.levelHalf ∧ 1 ≤ c.alignWaitUs ∧ 1 ≤ c.vMin) ∧ (1#32).toNat ≤ 1 ∧ 1 < (2#32).toNat ∧
      waitingRun.grid.waiting.length = 1 ∧ waitingRun.store.f = none ∧ begun.grid.waiting = [] ∧
      begun.store.f = some 0 := by decide +kernel

theorem witness_EndRunWaitsForItsAnswer :
    (State.asked waitingRun .p0 (req .endRun [])).grid.waiting ≠ [] ∧
      (State.asked waitingRun .p0 (req .endRun [])).run.state = .running ∧ (askedIn .endRun []).grid.waiting = [] ∧
      (askedIn .endRun []).store.w = some 0 ∧ (askedIn .endRun []).store.c = behind (some 0) 20 := by decide +kernel

theorem witness_ManualFixSetsBothOffsets :
    begun.store.w = some 0 ∧ begun.pos.base = 1000 ∧ begun.run.state = .running ∧
      -2147483648 ≤ (-2147482648 : Int) - 1000 ∧ ¬(-2147483648 ≤ (-2147482649 : Int) - 1000) ∧
      (let s := askedIn .manualFix [0x7FFFFFFF#32]
       let q : Port := { s.port .p0 with options := { LinkOptions.default with noticeMask := 1#3 } }
       let t := stateOf (exec (.manualFix .p0)
        { s.setPort .p0 q with pos := { s.pos with applied := -2147483648 } })
       (t.port .p0).notices.getLast?.map (fun n => (n.cls, n.payload.take 9)) = some (.location,
         [2#32, 0#32, 1#32, 0xFFFFFFFF#32, 0xFFFFFFFF#32, 0xFFFFFFFF#32, 0x7FFFFFFF#32, 2147482647#32,
          2147482647#32])) := by decide +kernel

/-- RESET_PART in IDLE, with a CLAIM of PORT1 in service, and from PORT1 with an END_RUN of PORT0 pending. -/
theorem witness_ResetPartReturnsToIdle :
    (ServiceInv (asked .resetPart []) ∧ Serves .resetPart .p0 (req .resetPart []) [] (asked .resetPart []) ∧
      (asked .resetPart []).svc.holder = some .p0) ∧
      (let s := State.asked claimed .p0 (req .resetPart [])
       ServiceInv s ∧ Serves .resetPart .p0 (req .resetPart []) [] s ∧ s.svc.holder = some .p0 ∧
         (s.port .p1).inService = some (.claim 7#8)) ∧
      (let s := State.asked ending .p1 (req .resetPart [])
       ServiceInv s ∧ Serves .resetPart .p1 (req .resetPart []) [] s ∧ s.svc.holder = some .p1 ∧
         (s.port .p0).inService = some (.endRun 7#8)) := by
  refine ⟨⟨asked_service base_service (by decide), serves_base _ _, rfl⟩,
    ⟨asked_service claimed_service (by decide +kernel), serves_asked (by decide +kernel) (by decide +kernel)
      (by decide +kernel), by decide +kernel, by decide +kernel⟩,
    asked_service ending_service (by decide +kernel), serves_asked (by decide +kernel) (by decide +kernel)
      (by decide +kernel), by decide +kernel, by decide +kernel⟩

/-- A port that is not ACTIVE and holds its reset values. -/
theorem port_reset_ok : Port.reset.Ok none :=
  ⟨by decide, by decide, by decide, by decide, by decide, by decide, fun h => (nomatch h),
    fun _ => ⟨rfl, rfl, rfl, rfl, rfl, rfl, rfl, rfl, rfl⟩, fun _ => ⟨rfl, rfl, rfl, rfl⟩⟩

theorem client_ok : client.Ok none :=
  ⟨by decide, by decide, by decide, by decide, by decide, by decide, fun _ => rfl, fun h => absurd rfl h,
    fun h => (nomatch h)⟩

theorem witness_StepsKeepThePorts : PortsInv base ∧ ∃ t, step base = .next t :=
  ⟨fun p => match p with
    | .p0 => client_ok
    | .p1 => client_ok
    | .p2 => port_reset_ok
    | .p3 => port_reset_ok, _, rfl⟩

theorem begun_service : ServiceInv begun :=
  service_of (fun p => by cases p <;> decide +kernel) (by decide +kernel) (by decide +kernel)
    (fun p => by cases p <;> decide +kernel) (fun p => by cases p <;> decide +kernel)
    (fun p => by cases p <;> decide +kernel)

theorem begun_run : RunInv begun := by
  refine ⟨by decide +kernel, by decide +kernel, by decide +kernel, by decide +kernel, by decide +kernel,
    by decide +kernel, by decide +kernel, fun _ => ⟨0, by decide +kernel, ?_, by decide +kernel, by decide +kernel⟩⟩
  intro k h
  have : begun.store.f = some 0 := by decide +kernel
  rw [this] at h
  exact Nat.le_of_eq (Option.some.inj h).symm

theorem witness_StepsKeepServiceAndAuthority : ServiceInv begun ∧ RunInv begun ∧ ∃ t, step begun = .next t :=
  ⟨begun_service, begun_run, _, rfl⟩

theorem witness_StepsKeepTheExceedanceList :
    ExmInv (withRecord .unacked 3).exm ∧ ∃ t, step (withRecord .unacked 3) = .next t := by
  have g : ∀ p, ((withRecord .unacked 3).exm.groups.get p).current = none := by
    intro p; cases p <;> decide +kernel
  refine ⟨⟨by decide +kernel, by decide +kernel, by decide +kernel, ?_, by decide +kernel, ?_, by decide +kernel⟩, ?_⟩
  · intro r h
    simp only [withRecord, List.mem_singleton] at h
    subst h
    exact ⟨by decide, by decide, by decide⟩
  · intro p x h; rw [g] at h; cases h
  · exact ⟨_, rfl⟩

theorem witness_StepsKeepTheTablesAndSettings : TablesInv base ∧ SettingsInv base ∧ ∃ t, step base = .next t := by
  refine ⟨⟨by decide, by decide, by decide, by decide, by decide, by decide, ?_, ?_⟩,
    ⟨by decide, ?_, ?_, ?_⟩, _, rfl⟩
  · intro e h; cases h
  · intro k p
    have h : (base.cls.thresholds.get k).get p = Limits.zero := by cases p <;> revert k <;> decide
    rw [h]
    refine ⟨by decide, ?_, ?_, ?_, ?_, ?_, ?_⟩ <;> intro h <;> exact absurd rfl h
  · intro c; cases c <;> decide
  · intro c; cases c <;> decide
  · intro c; cases c <;> decide

theorem witness_StepsKeepTheFrontiers : RunInv begun ∧ ∃ t, step begun = .next t := ⟨begun_run, _, rfl⟩

theorem witness_StepsKeepTheBuffersAndTheCount :
    BuffersInv begun ∧ IntakeInv liveRun.intake ∧ TimeInv begun ∧ ∃ t, step begun = .next t := by
  refine ⟨⟨by decide +kernel, by decide +kernel, by decide +kernel, ⟨by decide +kernel, by decide +kernel⟩,
    ⟨by decide +kernel, by decide +kernel⟩, ⟨by decide +kernel, by decide +kernel⟩, by decide +kernel,
    by decide +kernel⟩, ⟨⟨by decide +kernel, by decide +kernel, ?_⟩, ⟨by decide +kernel, by decide +kernel, ?_⟩,
    ⟨by decide +kernel, by decide +kernel, ?_⟩, ?_⟩, by unfold TimeInv; decide +kernel, _, rfl⟩
  · have h : liveRun.intake.units.headL.prevStamp = some 5000 ∧ ∀ e ∈ liveRun.intake.queueL, e.stamp ≤ 5000 := by
      decide +kernel
    exact fun e he => ⟨5000, h.1, h.2 e he⟩
  · have h : liveRun.intake.queueR = [] := by decide +kernel
    rw [h]; intro e he; cases he
  · have h : liveRun.intake.queueI = [] := by decide +kernel
    rw [h]; intro e he; cases he
  · intro c; cases c <;> decide +kernel

theorem witness_WithoutAuthorityNothingShared : State.reset.svc.holder = none ∧ Instr.alignDeadline ≠ .powerOn ∧
    Instr.alignDeadline ≠ .resetn ∧ Instr.alignDeadline ≠ .timebaseWrap ∧
    exec .alignDeadline State.reset = .next State.reset := ⟨rfl, by decide, by decide, by decide, rfl⟩

end Sys2Proof.Tests
end

section
/-!
PROOFS. What a write into the ring of slots does, said once (R90, R92), and the arithmetic of limits and roundings (R1).
-/

namespace Sys2Proof.Machine

/-! ### Slots (R90, R92) -/

/-- A slot reads what was last put into it; the others read as before. -/
theorem getSlot_putSlot (n m : Nat) (x : PointRec) (l : List (Nat × PointRec)) :
    getSlot n (putSlot m x l) = if n = m then some x else getSlot n l := by
  induction l with
  | nil => rfl
  | cons e l ih =>
    obtain ⟨i, y⟩ := e
    unfold putSlot
    by_cases hn : n = m
    · subst hn
      split
      · simp [getSlot]
      · split
        · simp [getSlot]
        · next hne => simp [getSlot, hne, ih]
    · split
      · simp [getSlot, hn]
      · split
        · next h => subst h; simp [getSlot, hn]
        · simp [getSlot, ih, hn]

theorem mem_putSlot {m : Nat} {x : PointRec} {l : List (Nat × PointRec)} {e : Nat × PointRec}
    (h : e ∈ putSlot m x l) : e = (m, x) ∨ e ∈ l := by
  induction l with
  | nil => exact .inl (by simpa [putSlot] using h)
  | cons d l ih =>
    obtain ⟨i, y⟩ := d
    simp only [putSlot] at h
    split at h
    · simpa using h
    · split at h
      · rcases List.mem_cons.mp h with h | h
        · exact .inl h
        · exact .inr (List.mem_cons_of_mem _ h)
      · rcases List.mem_cons.mp h with h | h
        · exact .inr (h ▸ List.mem_cons_self)
        · exact (ih h).imp_right (List.mem_cons_of_mem _)

/-- A point put into its place keeps the rising order of slot numbers. -/
theorem putSlot_pairwise (m : Nat) (x : PointRec) {l : List (Nat × PointRec)}
    (h : l.Pairwise fun a b => a.1 < b.1) : (putSlot m x l).Pairwise fun a b => a.1 < b.1 := by
  induction l with
  | nil => exact List.pairwise_singleton _ _
  | cons d l ih =>
    obtain ⟨i, y⟩ := d
    obtain ⟨hd, hl⟩ := List.pairwise_cons.mp h
    unfold putSlot
    split
    · next hlt =>
      refine List.pairwise_cons.mpr ⟨fun e he => ?_, h⟩
      rcases List.mem_cons.mp he with rfl | he
      · exact hlt
      · exact hlt.trans (hd e he)
    · next hge =>
      split
      · next heq => exact List.pairwise_cons.mpr ⟨fun e he => heq ▸ hd e he, hl⟩
      · next hne =>
        refine List.pairwise_cons.mpr ⟨fun e he => ?_, ih hl⟩
        rcases mem_putSlot he with rfl | he
        · show i < m; omega
        · exact hd e he

/-- A point that STORE finds stands in its slot, under its index (R92). -/
theorem Store.point_eq_some {st : Store} {k : Nat} {r : PointRec} :
    st.point k = some r ↔ getSlot (slotOf k) st.slots = some r ∧ r.index = k := by
  unfold Store.point
  cases getSlot (slotOf k) st.slots with
  | none => simp
  | some x =>
    by_cases h : x.index = k
    · simp only [h, if_true, Option.some.injEq]
      exact ⟨fun e => ⟨e, e ▸ h⟩, fun e => e.1⟩
    · simp only [h, if_false, Option.some.injEq, reduceCtorEq, false_iff]
      exact fun e => h (e.1 ▸ e.2)

theorem Store.write_of_lost {st : Store} {k : Nat} (h : st.point k = none) (f : PointRec → PointRec) :
    st.write k f = st := by
  unfold Store.write; rw [h]

theorem Store.write_of_held {st : Store} {k : Nat} {r : PointRec} (h : st.point k = some r)
    (f : PointRec → PointRec) :
    st.write k f = { st with slots := putSlot (slotOf k) { f r with index := r.index } st.slots } := by
  unfold Store.write; rw [h]

/-- A write changes the slots of the store alone. -/
theorem Store.write_frame (st : Store) (k : Nat) (f : PointRec → PointRec) :
    st.write k f = { st with slots := (st.write k f).slots } := by
  unfold Store.write; split <;> rfl

/-- A write to a point changes no other slot (R92). -/
theorem Store.getSlot_write_of_ne (st : Store) {n k : Nat} (f : PointRec → PointRec) (h : n ≠ slotOf k) :
    getSlot n (st.write k f).slots = getSlot n st.slots := by
  cases hp : st.point k with
  | none => rw [Store.write_of_lost hp]
  | some r => rw [Store.write_of_held hp]; simp [getSlot_putSlot, h]

/-- What STORE finds after a write: the point written, changed but for its index, and every other as before (R92). -/
theorem Store.point_write (st : Store) (j k : Nat) (f : PointRec → PointRec) :
    (st.write k f).point j =
      if j = k then (st.point k).map fun r => { f r with index := r.index } else st.point j := by
  cases hp : st.point k with
  | none =>
    rw [Store.write_of_lost hp]
    by_cases h : j = k
    · simp [h, hp]
    · simp [h]
  | some r =>
    obtain ⟨hs, hr⟩ := Store.point_eq_some.mp hp
    rw [Store.write_of_held hp]
    unfold Store.point
    simp only [getSlot_putSlot]
    by_cases h : j = k
    · subst h; simp [hr]
    · by_cases hj : slotOf j = slotOf k
      · have hne : ¬r.index = j := fun e => h (e ▸ hr)
        simp [h, hj, hs, hne]
      · simp [h, hj]

/-- A write to a point changes the slots alone. -/
theorem writePoint_frame (k : Nat) (f : PointRec → PointRec) (s : State) :
    writePoint k f s = { s with store := { s.store with slots := (writePoint k f s).store.slots } } := by
  show ({ s with store := s.store.write k f } : State) = { s with store := { s.store with slots := _ } }
  rw [Store.write_frame]; rfl

/-! ### Limits and counters (R1) -/

theorem limit_eq {lo hi : Int} (h : lo ≤ hi) (x : Int) : limit lo hi x = max lo (min hi x) := by
  unfold limit; split
  · omega
  · split <;> omega

theorem limit_mem {lo hi : Int} (h : lo ≤ hi) (x : Int) : lo ≤ limit lo hi x ∧ limit lo hi x ≤ hi := by
  rw [limit_eq h]; omega

theorem inc16_eq (n : Nat) : inc16 n = min 65535 (n + 1) := by
  unfold inc16 addSat16; split <;> omega

theorem newest_length_le {α : Type} (n : Nat) (l : List α) : (newest n l).length ≤ n := by
  unfold newest; rw [List.length_drop]; omega

end Sys2Proof.Machine
end

section
/-!
PROOFS. Every step keeps the buffers in bounds, the sample queues in form and the count in its 48 bits (R2, R8, R27,
R36, R66, R67, R71, R74, R90). `Leads P Q s t` says it of an event that takes the part from `s` to `t`; an event that
needs more of INTAKE than its invariant, as the entry of a stamped sample does, names it in `P`.
-/

namespace Sys2Proof.Machine

/-- From `s` to `t`, the bounded buffers stay in bounds, the count does not rise, and an INTAKE of which `P` holds becomes
one of which `Q` holds. -/
structure Leads (P Q : Intake → Prop) (s t : State) : Prop where
  buffers : BuffersInv s → BuffersInv t
  intake : P s.intake → Q t.intake
  now : t.now ≤ s.now

/-- From `s` to `t`, the bounded buffers and INTAKE keep their invariants and the count does not rise. -/
abbrev Bounded (s t : State) : Prop := Leads IntakeInv IntakeInv s t

variable {P Q R : Intake → Prop} {s t u : State}

theorem Leads.refl (s : State) : Leads P P s s := ⟨id, id, Nat.le_refl _⟩

theorem Leads.trans (h : Leads P Q s t) (k : Leads Q R t u) : Leads P R s u :=
  ⟨k.buffers ∘ h.buffers, k.intake ∘ h.intake, k.now.trans h.now⟩

/-- `Leads.trans` with the later event first, which the goal names. -/
theorem Leads.after (k : Leads Q R t u) (h : Leads P Q s t) : Leads P R s u := h.trans k

theorem Leads.ite {c : Prop} [Decidable c] (ht : Leads P Q s t) (hu : Leads P Q s u) :
    Leads P Q s (if c then t else u) := by split <;> assumption

/-- A fold of events that each stay bounded stays bounded. -/
theorem Leads.foldl {α : Type} {f : State → α → State} (h : ∀ s x, Bounded s (f s x)) (l : List α) (s : State) :
    Bounded s (l.foldl f s) := by
  induction l generalizing s with
  | nil => exact Leads.refl s
  | cons x l ih => exact (h s x).trans (ih (f s x))

/-- The buffers that the invariants bound, with INTAKE and the count. -/
def State.buffers (s : State) :=
  (s.now, s.intake, s.odo.history, s.geo.chord, s.geo.cants, s.geo.vl, s.geo.vr, s.geo.lat, s.store.slots)

/-- An event that touches none of the buffers. -/
theorem Leads.of_eq (h : t.buffers = s.buffers) : Leads P P s t := by
  simp only [State.buffers, Prod.mk.injEq] at h
  obtain ⟨hn, hi, hh, hc, hk, hvl, hvr, hlat, hs⟩ := h
  refine ⟨fun b => ⟨?_, ?_, ?_, ?_, ?_, ?_, ?_, ?_⟩, fun i => hi ▸ i, hn.le⟩
  · exact hh ▸ b.history
  · exact hc ▸ b.chord
  · exact hk ▸ b.cants
  · exact hvl ▸ b.vl
  · exact hvr ▸ b.vr
  · exact hlat ▸ b.lat
  · exact hs ▸ b.ring
  · exact hs ▸ b.slots

/-- An event after which none of the buffers is touched. -/
theorem Leads.still (h : Leads P Q s t) (e : u.buffers = t.buffers) : Leads P Q s u := h.trans (.of_eq e)

/-- A change of the blocks that hold none of the buffers. -/
theorem rest_bounded (s : State) (g : Grid) (ps : Pos) (c : Cls) (e : Exm) (r : Run) (p : PerPort Port) (v : Svc)
    (n : Nat) : Bounded s { s with grid := g, pos := ps, cls := c, exm := e, run := r, ports := p, svc := v,
                                   freeCount := n } := .of_eq rfl

/-! ### Notices, answers and streams -/

theorem offerTo_bounded (p : PortId) (n : Notice) (s : State) : Bounded s (offerTo p n s) := .of_eq rfl

theorem setPort_bounded (p : PortId) (q : Port) (s : State) : Bounded s (s.setPort p q) := .of_eq rfl

theorem reply_bounded (p : PortId) (tag : Byte) (w : List Word) (s : State) : Bounded s (reply p tag w s) := .of_eq rfl

theorem refuse_bounded (p : PortId) (k tag : Byte) (r : Reason) (n : Nat) (s : State) :
    Bounded s (refuse p k tag r n s) := .of_eq rfl

theorem setInService_bounded (p : PortId) (w : Option InService) (s : State) : Bounded s (setInService p w s) :=
  .of_eq rfl

theorem setStream_bounded (p : PortId) (x : Option Stream) (s : State) : Bounded s (setStream p x s) := .of_eq rfl

theorem endStream_bounded (p : PortId) (why : StreamEnd) (s : State) : Bounded s (endStream p why s) := by
  unfold endStream; split
  · exact (setStream_bounded p none s).trans (offerTo_bounded p _ _)
  · exact .refl s

theorem endAllStreams_bounded (why : StreamEnd) (s : State) : Bounded s (endAllStreams why s) :=
  Leads.foldl (fun t p => endStream_bounded p why t) _ s

theorem runOverTest_bounded (p : PortId) (s : State) : Bounded s (runOverTest p s) := by
  unfold runOverTest; split
  · exact .ite (endStream_bounded p _ s) (.refl s)
  · exact .refl s

theorem afterPoints_bounded (p : PortId) (s : State) : Bounded s (afterPoints p s) := by
  unfold afterPoints; split
  · exact .ite (endStream_bounded p _ s) (runOverTest_bounded p s)
  · exact .refl s

theorem buildPoints_bounded (n : Nat) (p : PortId) (s : State) : Bounded s (buildPoints n p s) := by
  induction n generalizing s with
  | zero => exact .refl s
  | succ n ih =>
    unfold buildPoints; split
    · refine .ite (.refl s) ((ih _).after ((afterPoints_bounded p _).after ?_))
      exact (offerTo_bounded p _ s).trans (setStream_bounded p _ _)
    · exact .refl s

theorem streamBuild_bounded (p : PortId) (s : State) : Bounded s (streamBuild p s) := buildPoints_bounded _ p s

theorem streamBuildAll_bounded (s : State) : Bounded s (streamBuildAll s) :=
  Leads.foldl (fun t p => streamBuild_bounded p t) _ s

theorem reportGap_bounded (p : PortId) (st : Stream) (n : Nat) (s : State) : Bounded s (reportGap p st n s) := .of_eq rfl

theorem gapTest_bounded (p : PortId) (s : State) : Bounded s (gapTest p s) := by
  unfold gapTest; split
  · refine .ite ?_ (.refl s)
    split
    · exact .ite ((endStream_bounded p _ _).after (reportGap_bounded p _ _ s))
        ((streamBuild_bounded p _).after (reportGap_bounded p _ _ s))
    · exact (streamBuild_bounded p _).after (reportGap_bounded p _ _ s)
  · exact .refl s

/-- A change of the store that leaves the slots. -/
theorem frontiers_bounded (s : State) (w f c : Option Nat) (n : Nat) (x : PerPort (Option Stream)) :
    Bounded s { s with store := { s.store with w := w, f := f, c := c, overwritten := n, streams := x } } := .of_eq rfl

/-! ### Slots (R90, R92) -/

/-- The ring stays in form when a slot takes a point whose index leaves it. -/
theorem putSlot_bounded (s : State) (st : Store) (n : Nat) (x : PointRec) (h : n = slotOf x.index)
    (hs : st.slots = putSlot n x s.store.slots) : Bounded s { s with store := st } := by
  refine ⟨fun b => ⟨b.history, b.chord, b.cants, b.vl, b.vr, b.lat, ?_, fun e he => ?_⟩, id, Nat.le_refl _⟩
  · show st.slots.Pairwise _
    rw [hs]; exact putSlot_pairwise n x b.ring
  · rcases mem_putSlot (hs ▸ he : e ∈ putSlot n x s.store.slots) with rfl | he
    · exact h
    · exact b.slots e he

theorem writePoint_bounded (k : Nat) (f : PointRec → PointRec) (s : State) : Bounded s (writePoint k f s) := by
  cases h : s.store.point k with
  | none => unfold writePoint; rw [Store.write_of_lost h]; exact .refl s
  | some r =>
    have hr : r.index = k := (Store.point_eq_some.mp h).2
    unfold writePoint; rw [Store.write_of_held h]
    exact putSlot_bounded s _ (slotOf k) { f r with index := r.index } (congrArg slotOf hr.symm) rfl

theorem openSlot_bounded (x : PointRec) (s : State) : Bounded s (openSlot x s) :=
  (putSlot_bounded s _ _ x rfl rfl).trans (Leads.foldl (fun t p => gapTest_bounded p t) _ _)

/-! ### EXM -/

theorem closeRecord_bounded (p : Param) (why : CloseReason) (i : Nat) (c : Int) (s : State) :
    Bounded s (closeRecord p why i c s) := by
  unfold closeRecord; dsimp only; split
  · exact .refl s
  · split <;> exact .of_eq rfl

theorem closeAtLast_bounded (p : Param) (why : CloseReason) (s : State) : Bounded s (closeAtLast p why s) := by
  unfold closeAtLast; split
  · exact closeRecord_bounded p why _ _ s
  · exact .refl s

theorem openRecord_bounded (p : Param) (l : Nat) (d : Side) (v : Int) (at' : PointPlace) (s : State) :
    Bounded s (openRecord p l d v at' s) := by
  unfold openRecord; dsimp only; split
  · exact .of_eq rfl
  · refine .ite ?_ ?_ <;> exact .of_eq rfl

theorem extendRecord_bounded (p : Param) (o : OpenGroup) (l : Nat) (v : Int) (at' : PointPlace) (s : State) :
    Bounded s (extendRecord p o l v at' s) := by
  unfold extendRecord; dsimp only; split
  · exact .of_eq rfl
  · refine .ite ((closeRecord_bounded p _ _ _ _).after (.ite ?_ ?_)) (.ite ?_ ?_) <;> exact .of_eq rfl

theorem bridge_bounded (p : Param) (s : State) : Bounded s (bridge p s) := by
  unfold bridge; dsimp only; split
  · exact .refl s
  · refine .ite ((closeAtLast_bounded p _ _).after ?_) ?_ <;> exact .of_eq rfl

theorem applyOutcome_bounded (p : Param) (o : ParamOutcome) (v : Int) (at' : PointPlace) (s : State) :
    Bounded s (applyOutcome p o v at' s) := by
  unfold applyOutcome; split
  · exact closeAtLast_bounded p _ s
  · exact closeAtLast_bounded p _ s
  · exact bridge_bounded p s
  · split
    · exact openRecord_bounded p _ _ v at' s
    · exact .ite (extendRecord_bounded p _ _ v at' s)
        ((openRecord_bounded p _ _ v at' _).after (closeAtLast_bounded p _ s))

theorem judgeHeld_bounded (x : PointRec) (s : State) : Bounded s (judgeHeld x s) := by
  unfold judgeHeld; dsimp only
  exact ((Leads.trans (rest_bounded s _ _ (s.cls.counted x.chainage) _ _ _ _ _)
    (Leads.foldl (fun t p => applyOutcome_bounded p _ _ _ t) _ _)).trans (writePoint_bounded _ _ _)).trans
      (rest_bounded _ _ _ _ _ _ _ _ _)

theorem judgeLost_bounded (s : State) : Bounded s (judgeLost s) := by
  unfold judgeLost; dsimp only
  exact (Leads.foldl (fun t p => closeAtLast_bounded p .void t) Param.all s).still rfl

theorem closeAllRunEnd_bounded (s : State) : Bounded s (closeAllRunEnd s) :=
  Leads.foldl (fun t p => closeAtLast_bounded p _ t) _ s

/-! ### GEO (R66, R67, R71, R74) -/

/-- An integrator stays within its limits at every raw point. -/
theorem Integrator.Ok.step {i : Integrator} (h : i.Ok) (seam low : Bool) (a : Int) (v leakShift : Nat) :
    (i.at seam low a v leakShift).1.Ok := by
  unfold Integrator.at
  split
  · exact ⟨by decide, by decide⟩
  · split
    · exact h
    · have hs (x : Int) := limit_mem (lo := -slopeLimit) (hi := slopeLimit) (by decide) x
      have hd (x : Int) := limit_mem (lo := -dispLimit) (hi := dispLimit) (by decide) x
      simp only [slopeLimit, dispLimit] at hs hd
      constructor
      · have := hs (i.slope - truncDiv i.slope (2 ^ leakShift) + roundDiv (a * 250000000000) (v * v))
        simp only [Integrator.step, slopeLimit]; omega
      · simp only [Integrator.step, slopeLimit, dispLimit]
        have := hd (i.disp + roundDiv (limit (-100000000) 100000000
          (i.slope - truncDiv i.slope (2 ^ leakShift) + roundDiv (a * 250000000000) (v * v))) 4)
        omega

theorem geoClassify_bounded (rp : RawPoint) (s : State) : Bounded s (geoClassify rp s) := by
  unfold geoClassify; dsimp only
  refine (writePoint_bounded _ _ _).after ⟨fun b => ?_, id, Nat.le_refl _⟩
  exact ⟨b.history, by dsimp only; exact newest_length_le _ _, b.cants, b.vl.step _ _ _ _ _, b.vr.step _ _ _ _ _,
    b.lat.step _ _ _ _ _, b.ring, b.slots⟩

theorem writeParam_bounded (k : Nat) (p : Param) (x : Limited) (s : State) : Bounded s (writeParam k p x s) := by
  unfold writeParam; dsimp only
  exact .ite ((writePoint_bounded k _ s).still rfl) (writePoint_bounded k _ s)

/-- The cant history keeps its newest 41 entries (R74). -/
theorem newestCants_bounded (s : State) (l : List CantEntry) :
    Bounded s { s with geo := { s.geo with cants := newest cantCapacity l } } :=
  ⟨fun b => ⟨b.history, b.chord, newest_length_le _ _, b.vl, b.vr, b.lat, b.ring, b.slots⟩, id, Nat.le_refl _⟩

theorem geoPoint_bounded (rp : RawPoint) (low : Bool) (s : State) : Bounded s (geoPoint rp low s) :=
  ((((writeParam_bounded _ _ _ s).trans (writeParam_bounded _ _ _ _)).trans (newestCants_bounded _ _)).trans
    (writeParam_bounded _ _ _ _)).trans (writeParam_bounded _ _ _ _)

theorem writeVersines_bounded (l : List VersineKind) (k m : Nat) (s : State) : Bounded s (writeVersines l k m s) :=
  .ite (.refl s) (Leads.foldl (fun t _ => writeParam_bounded _ _ _ t) l s)

theorem completePoint_bounded (j : Nat) (s : State) : Bounded s (completePoint j s) := by
  unfold completePoint; dsimp only
  refine (streamBuildAll_bounded _).after ?_
  split
  · exact (frontiers_bounded _ _ _ _ _ _).after ((writePoint_bounded _ _ _).after (judgeHeld_bounded _ s))
  · exact (frontiers_bounded _ _ _ _ _ _).after ((judgeLost_bounded _).after (frontiers_bounded s _ _ _ _ _))

theorem geoRawPoint_bounded (rp : RawPoint) (s : State) : Bounded s (geoRawPoint rp s) := by
  unfold geoRawPoint; dsimp only
  have h := (((geoClassify_bounded rp s).trans (geoPoint_bounded rp (isLowSpeed s.run.settings.vMin s.geo.low rp.speed)
    _)).trans (writeVersines_bounded levelKinds rp.index s.run.settings.levelHalf _)).trans
      (writeVersines_bounded alignKinds rp.index s.run.settings.alignHalf _)
  exact .ite h ((completePoint_bounded _ _).after h)

theorem voidVersines_bounded (l : List VersineKind) (j m w : Nat) (s : State) : Bounded s (voidVersines l j m w s) :=
  .ite (Leads.foldl (fun t _ => writeParam_bounded _ _ _ t) l s) (.refl s)

theorem completeTail_bounded (w j : Nat) (s : State) : Bounded s (completeTail w j s) :=
  (((voidVersines_bounded _ _ _ _ s).trans (voidVersines_bounded _ _ _ _ _)).trans (writePoint_bounded _ _ _)).trans
    (completePoint_bounded _ _)

theorem completeTailAll_bounded (s : State) : Bounded s (completeTailAll s) := by
  unfold completeTailAll; dsimp only
  split
  · exact (Leads.foldl (fun t i => completeTail_bounded _ _ t) _ s).still rfl
  · exact .of_eq rfl

/-! ### GRID and the end of a run (R39) -/

theorem answerEndRun_bounded (s : State) : Bounded s (answerEndRun s) := by
  unfold answerEndRun; split <;> exact .of_eq rfl

theorem runNotice_bounded (cause : RunCause) (s : State) : Bounded s (runNotice cause s) := .of_eq rfl

/-- The reference time is none of INTAKE's invariant. -/
theorem refTime_bounded (s : State) (o : Odo) (g : Grid) (r : Run) (x : Option Nat)
    (h : o.history = s.odo.history) :
    Bounded s { s with odo := o, grid := g, run := r, intake := { s.intake with refTime := x } } :=
  ⟨fun b => ⟨(congrArg List.length h).trans_le b.history, b.chord, b.cants, b.vl, b.vr, b.lat, b.ring, b.slots⟩,
    fun i => ⟨i.queueL, i.queueR, i.queueI, i.live⟩, Nat.le_refl _⟩

theorem becomeIdle_bounded (s : State) : Bounded s (becomeIdle s) := by
  unfold becomeIdle; dsimp only
  refine (answerEndRun_bounded _).after ((runNotice_bounded _ _).after
    ((Leads.foldl (fun t p => runOverTest_bounded p t) _ _).after ?_))
  exact refTime_bounded s { s.odo with window := none } _ _ _ rfl

theorem finishRun_bounded (s : State) : Bounded s (finishRun s) := by
  unfold finishRun setStage; dsimp only
  refine (becomeIdle_bounded _).after ((closeAllRunEnd_bounded _).after
    (Leads.after (rest_bounded _ _ _ _ _ _ _ _ _) ((completeTailAll_bounded _).after ?_)))
  exact .of_eq rfl

/-- A trimmed queue is a part of the queue. -/
theorem trimQueue_sublist {α : Type} (q : List (Entry α)) (t : Nat) : (trimQueue q t).Sublist q := by
  unfold trimQueue; split
  · exact List.filter_sublist
  · exact List.Sublist.refl q

theorem QueueOk.sublist {α : Type} {q r : List (Entry α)} {x : Option Nat} (h : QueueOk q x) (k : r.Sublist q) :
    QueueOk r x :=
  ⟨k.length_le.trans h.capacity, h.ordered.sublist k, fun e he => h.tracked e (k.subset he)⟩

theorem formPoint_bounded (c : CreatedPoint) (rest : List CreatedPoint) (s : State) :
    Bounded s (formPoint c rest s) := by
  unfold formPoint; dsimp only
  refine (geoRawPoint_bounded _ _).after ⟨fun b => ?_, fun i => ?_, Nat.le_refl _⟩
  · exact ⟨b.history, b.chord, b.cants, b.vl, b.vr, b.lat, b.ring, b.slots⟩
  · exact ⟨i.queueL.sublist (trimQueue_sublist _ _), i.queueR.sublist (trimQueue_sublist _ _),
      i.queueI.sublist (trimQueue_sublist _ _), i.live⟩

theorem formWhile_bounded (n : Nat) (s : State) : Bounded s (formWhile n s) := by
  induction n generalizing s with
  | zero => exact .refl s
  | succ n ih =>
    unfold formWhile; split
    · exact .ite ((ih _).after (formPoint_bounded _ _ s)) (.refl s)
    · exact .refl s

theorem finishTest_bounded (s : State) : Bounded s (finishTest s) := .ite (finishRun_bounded s) (.refl s)

theorem examine_bounded (s : State) : Bounded s (examine s) :=
  .ite (.refl s) ((finishTest_bounded _).after (formWhile_bounded _ s))

theorem awaitPoint_bounded (c : CreatedPoint) (s : State) : Bounded s (awaitPoint c s) :=
  .ite ((examine_bounded _).after (.of_eq rfl)) (.of_eq rfl)

theorem alignDeadline_bounded (s : State) : Bounded s (alignDeadline s) := .ite (examine_bounded s) (.refl s)

/-! ### ODO (R8) -/

/-- A change of ODO that leaves the distance history, with any change of POS. -/
theorem odo_bounded (s : State) (o : Odo) (ps : Pos) (h : o.history = s.odo.history) :
    Bounded s { s with odo := o, pos := ps } := .of_eq (by simp only [State.buffers, h])

theorem createPoint_bounded (k crossing speed : Nat) (s : State) : Bounded s (createPoint k crossing speed s) := by
  unfold createPoint; dsimp only
  refine (awaitPoint_bounded _ _).after ((openSlot_bounded _ _).after ?_)
  exact odo_bounded s { s.odo with lastSpeed := speed, lastCrossing := crossing, pendingSeam := false,
                                   spacingOwed := s.odo.spacingOwed + 1 } _ rfl

theorem createPoints_bounded (f : Nat → Nat) (n k : Nat) (s : State) : Bounded s (createPoints f n k s) := by
  induction n generalizing k s with
  | zero => exact .refl s
  | succ n ih => exact (ih _ _).after (createPoint_bounded _ _ _ s)

theorem backtrackTest_bounded (sPrev : Int) (s : State) : Bounded s (backtrackTest sPrev s) := by
  unfold backtrackTest; dsimp only
  refine .ite (.ite ?_ (.refl s)) (.ite ?_ (.refl s)) <;> exact .of_eq rfl

/-- The distance history gives up its oldest pair at its capacity (R8). -/
theorem appendHistory_length_le {l : List (Nat × Int)} (h : l.length ≤ historyCapacity) (x : Nat × Int) :
    (appendHistory l x).length ≤ historyCapacity := by
  unfold appendHistory
  rw [List.length_append, List.length_singleton]
  split
  · rw [List.length_drop]; simp only [historyCapacity] at *; omega
  · omega

theorem sEvent_bounded (corr : Bool) (stamp : Nat) (step : Int) (s : State) : Bounded s (sEvent corr stamp step s) := by
  have h0 : Bounded s { s with odo := { s.odo with
      runDistance := s.odo.runDistance + step, eventRec := some (stamp, s.odo.runDistance + step),
      history := appendHistory s.odo.history (stamp, s.odo.runDistance + step) } } :=
    ⟨fun b => ⟨appendHistory_length_le b.history _, b.chord, b.cants, b.vl, b.vr, b.lat, b.ring, b.slots⟩, id,
      Nat.le_refl _⟩
  unfold sEvent; dsimp only
  generalize h1 : backtrackTest _ _ = s1
  have k1 : Bounded s s1 := by subst h1; exact h0.trans (backtrackTest_bounded _ _)
  exact .ite ((createPoints_bounded _ _ _ _).after (k1.still rfl)) (k1.still rfl)

theorem reportFault_bounded (s : State) : Bounded s (reportFault s) := .ite (.refl s) (.of_eq rfl)

theorem enterSlide_bounded (s : State) : Bounded s (enterSlide s) := by
  unfold enterSlide; dsimp only
  have k : Bounded s (if s.odo.disagreed.state ≠ s.odo.state then odometryNotice 0 { s with odo := s.odo.disagreed }
      else { s with odo := s.odo.disagreed }) := .ite (.of_eq rfl) (.of_eq rfl)
  exact .ite ((reportFault_bounded _).after k) k

theorem correctSlide_bounded (w : Window) (stamp : Nat) (s : State) : Bounded s (correctSlide w stamp s) := by
  unfold correctSlide; dsimp only
  exact .ite ((sEvent_bounded true stamp _ s).still rfl) (.refl s)

theorem closeAgreeing_bounded (s : State) : Bounded s (closeAgreeing s) := by
  unfold closeAgreeing; dsimp only
  exact .ite (.of_eq rfl) (.of_eq rfl)

theorem windowTest_bounded (stamp : Nat) (s : State) : Bounded s (windowTest stamp s) := by
  unfold windowTest; split
  · refine .ite (.ite (.of_eq rfl) (.ite ((closeAgreeing_bounded _).after (.of_eq rfl)) ?_)) (.refl s)
    exact (correctSlide_bounded _ _ _).after ((enterSlide_bounded _).after (.of_eq rfl))
  · exact .refl s

theorem takePulse_bounded (c : Channel) (stamp : Nat) (fwd : Bool) (s : State) :
    Bounded s (takePulse c stamp fwd s) :=
  (windowTest_bounded _ _).after (.ite ((sEvent_bounded _ _ _ _).after (.of_eq rfl)) (.of_eq rfl))

theorem pulse_bounded (c : Channel) (stamp : Nat) (fwd : Bool) (s : State) : Bounded s (pulse c stamp fwd s) :=
  .ite (.refl s) (.ite (.refl s) (takePulse_bounded c stamp fwd s))

theorem validateEdge_bounded (l : TachLine) (t : Nat) (s : State) : Bounded s (validateEdge l t s) := by
  unfold validateEdge; dsimp only; split
  · exact .ite ((pulse_bounded _ _ _ _).after (.of_eq rfl)) (.of_eq rfl)
  · exact .of_eq rfl

theorem takeEdge_bounded (l : TachLine) (s : State) : Bounded s (takeEdge l s) := by
  unfold takeEdge; dsimp only; split
  · exact .ite (validateEdge_bounded l _ s) (.refl s)
  · exact .refl s

theorem takeDueEdges_bounded (s : State) : Bounded s (takeDueEdges s) := by
  refine Leads.foldl (fun t _ => ?_) _ s
  split
  · exact takeEdge_bounded _ t
  · exact .refl t

theorem rawChange_bounded (l : TachLine) (level : Bool) (s : State) : Bounded s (rawChange l level s) := by
  have k : Bounded s (if (s.odo.lines.get l).due s.run.settings.glitchUs s.now = true then takeDueEdges s else s) :=
    .ite (takeDueEdges_bounded s) (.refl s)
  exact .ite k (k.still rfl)

theorem spacingStart_bounded (s : State) : Bounded s (spacingStart s) := .ite (.of_eq rfl) (.refl s)

theorem spacingEnd_bounded (s : State) : Bounded s (spacingEnd s) := .ite (.of_eq rfl) (.refl s)

/-! ### POS -/

theorem judgeRead_bounded (ident : Nat) (m d : Int) (t : Nat) (s : State) : Bounded s (judgeRead ident m d t s) := by
  have rebase (f : MarkerFields) (e : Int) : Bounded s (rebaseOn f e d t s) := .ite (.of_eq rfl) (.of_eq rfl)
  unfold judgeRead; dsimp only; split
  · exact .ite (.ite (.of_eq rfl) (.of_eq rfl)) (.ite (.of_eq rfl) (.of_eq rfl))
  · exact rebase _ _
  · exact rebase _ _

theorem takeMarkerRead_bounded (ident stamp : Nat) (d : Int) (s : State) :
    Bounded s (takeMarkerRead ident stamp d s) := by
  unfold takeMarkerRead; dsimp only
  refine .ite (.of_eq rfl) (.ite (.of_eq rfl) ?_)
  split
  · exact .of_eq rfl
  · exact .ite (.of_eq rfl) (judgeRead_bounded _ _ _ _ s)

end Sys2Proof.Machine
end

section
/-!
PROOFS. INTAKE, the client ports, the requests and the resets keep the buffers in bounds, and so does every step.
-/

namespace Sys2Proof.Machine

variable {P Q R : Intake → Prop} {s t u : State}

/-! ### INTAKE (R27, R34, R36, R37) -/

/-- An event that touches INTAKE alone among the buffers. -/
theorem Leads.of_intake (i : Intake) (h : t.buffers = ({ s with intake := i } : State).buffers)
    (hi : P s.intake → Q i) : Leads P Q s t := by
  have k : Leads P Q s ({ s with intake := i } : State) :=
    ⟨fun b => ⟨b.history, b.chord, b.cants, b.vl, b.vr, b.lat, b.ring, b.slots⟩, hi, Nat.le_refl _⟩
  exact k.still h

/-- What stays bounded under INTAKE's invariant does so under more than that. -/
theorem Leads.weaken (h : Leads P Q s t) (k : ∀ i, R i → P i) : Leads R Q s t :=
  ⟨h.buffers, fun r => h.intake (k _ r), h.now⟩

/-- A previous stamp that does not fall keeps a queue in form. -/
theorem QueueOk.mono {α : Type} {q : List (Entry α)} {x y : Option Nat} (h : QueueOk q x)
    (k : ∀ a, x = some a → ∃ b, y = some b ∧ a ≤ b) : QueueOk q y := by
  refine ⟨h.capacity, h.ordered, fun e he => ?_⟩
  obtain ⟨a, ha, hle⟩ := h.tracked e he
  obtain ⟨b, hb, hab⟩ := k a ha
  exact ⟨b, hb, hle.trans hab⟩

/-- A source's unit may change where its previous stamp does not fall and a deadline stands exactly while it is LIVE. -/
theorem IntakeInv.setUnit {i : Intake} (h : IntakeInv i) (c : Source) (u : SourceUnit)
    (hp : ∀ a, (i.units.get c).prevStamp = some a → ∃ b, u.prevStamp = some b ∧ a ≤ b)
    (hl : u.state = .live ↔ u.deadline.isSome = true) : IntakeInv { i with units := i.units.set c u } := by
  have live : ∀ d, ((i.units.set c u).get d).state = .live ↔ ((i.units.set c u).get d).deadline.isSome = true := by
    intro d
    rw [PerSource.get_set_ite]
    split
    · exact hl
    · exact h.live d
  cases c with
  | headL => exact ⟨h.queueL.mono hp, h.queueR, h.queueI, live⟩
  | headR => exact ⟨h.queueL, h.queueR.mono hp, h.queueI, live⟩
  | inertial => exact ⟨h.queueL, h.queueR, h.queueI.mono hp, live⟩
  | marker => exact ⟨h.queueL, h.queueR, h.queueI, live⟩

/-- A change of a source's unit that leaves its state, its deadline and its previous stamp. -/
theorem updateUnit_bounded (c : Source) (f : SourceUnit → SourceUnit) (s : State)
    (h : ∀ u, (f u).prevStamp = u.prevStamp ∧ (f u).state = u.state ∧ (f u).deadline = u.deadline) :
    Bounded s (updateUnit c f s) := by
  obtain ⟨hp, hs, hd⟩ := h (s.intake.units.get c)
  refine .of_intake _ rfl fun i => i.setUnit c _ (fun a ha => ⟨a, hp.trans ha, Nat.le_refl _⟩) ?_
  rw [hs, hd]; exact i.live c

/-- A change of source state that comes with the change of its deadline. -/
theorem changeSource_bounded (c : Source) (f : SourceUnit → SourceUnit) (after : SourceState) (s : State)
    (hp : ∀ u, (f u).prevStamp = u.prevStamp) (hl : ∀ u, after = .live ↔ (f u).deadline.isSome = true) :
    Bounded s (changeSource c after (updateUnit c f s)) := by
  refine .of_intake { s.intake with
    units := s.intake.units.set c { f (s.intake.units.get c) with state := after } } ?_ fun i => ?_
  · simp [changeSource, sourceNotice, offerAll, updateUnit, State.buffers]
  · exact i.setUnit c _ (fun a ha => ⟨a, (hp _).trans ha, Nat.le_refl _⟩) (hl _)

theorem tellGrid_bounded (c : Source) (s : State) : Bounded s (tellGrid c s) := .ite (examine_bounded s) (.refl s)

theorem refreshLiveness_bounded (c : Source) (s : State) : Bounded s (refreshLiveness c s) := by
  unfold refreshLiveness; dsimp only
  split
  · next h =>
    refine .of_intake _ rfl fun i => i.setUnit c _ (fun a ha => ⟨a, ha, Nat.le_refl _⟩) ?_
    exact iff_of_true h rfl
  · exact changeSource_bounded c _ _ s (fun _ => rfl) (fun _ => iff_of_true rfl rfl)

theorem loseLiveness_bounded (c : Source) (s : State) : Bounded s (loseLiveness c s) := by
  refine .ite ((tellGrid_bounded c _).after (changeSource_bounded c _ _ s (fun _ => rfl) fun _ => ?_)) (.refl s)
  exact iff_of_false (by decide) Bool.false_ne_true

theorem staleDeadline_bounded (c : Source) (s : State) : Bounded s (staleDeadline c s) := by
  unfold staleDeadline; split
  · exact .ite (loseLiveness_bounded c s) (.refl s)
  · exact .refl s

theorem sensorLinkDown_bounded (c : Source) (s : State) : Bounded s (sensorLinkDown c s) :=
  (loseLiveness_bounded c _).after (updateUnit_bounded c _ s fun _ => ⟨rfl, rfl, rfl⟩)

theorem sensorLinkUp_bounded (c : Source) (s : State) : Bounded s (sensorLinkUp c s) :=
  updateUnit_bounded c _ s fun _ => ⟨rfl, rfl, rfl⟩

/-- INTAKE just after a sample of source `c` has been stamped `t`: the stamp is the source's previous stamp, and every
entry of its queue is earlier (R34). -/
structure Intake.Stamped (c : Source) (t : Nat) (i : Intake) : Prop where
  inv : IntakeInv i
  stamp : (i.units.get c).prevStamp = some t
  left : c = .headL → ∀ e ∈ i.queueL, e.stamp < t
  right : c = .headR → ∀ e ∈ i.queueR, e.stamp < t
  inertial : c = .inertial → ∀ e ∈ i.queueI, e.stamp < t

/-- A stamp that R34 gives is later than the previous stamp. -/
theorem SourceUnit.lt_of_stampFor {u : SourceUnit} {latency now t a : Nat} (h : u.stampFor latency now = some t)
    (ha : u.prevStamp = some a) : a < t := by
  unfold SourceUnit.stampFor at h
  split at h
  · cases h
  · simp only [ha] at h
    split at h
    · next hlt => cases h; exact hlt
    · cases h

theorem IntakeInv.stamped {i : Intake} (h : IntakeInv i) (c : Source) {t : Nat}
    (ht : ∀ a, (i.units.get c).prevStamp = some a → a < t) :
    Intake.Stamped c t { i with units := i.units.set c { i.units.get c with prevStamp := some t } } := by
  have early {α : Type} {q : List (Entry α)} (hq : QueueOk q (i.units.get c).prevStamp) : ∀ e ∈ q, e.stamp < t := by
    intro e he
    obtain ⟨a, ha, hle⟩ := hq.tracked e he
    exact hle.trans_lt (ht a ha)
  refine ⟨h.setUnit c _ (fun a ha => ⟨t, rfl, (ht a ha).le⟩) (h.live c), by simp, ?_, ?_, ?_⟩
  · rintro rfl; exact early h.queueL
  · rintro rfl; exact early h.queueR
  · rintro rfl; exact early h.queueI

theorem stampSample_bounded (c : Source) (handOn : Nat → State → State)
    (h : ∀ t s, Leads (Intake.Stamped c t) IntakeInv s (handOn t s)) (s : State) :
    Bounded s (stampSample c handOn s) := by
  unfold stampSample; split
  · next t ht =>
    exact (h t _).after (.of_intake _ rfl fun i => i.stamped c fun a ha => SourceUnit.lt_of_stampFor ht ha)
  · exact updateUnit_bounded c _ s fun _ => ⟨rfl, rfl, rfl⟩

/-- A queue with a later entry appended is in form; a full one gives up its oldest entry (R36, R38). -/
theorem QueueOk.append {α : Type} {q : List (Entry α)} {e : Entry α} {x : Option Nat} (h : QueueOk q x)
    (hx : x = some e.stamp) (hlt : ∀ d ∈ q, d.stamp < e.stamp) : QueueOk (appendEntry q e) x := by
  have hsub : (if sampleCapacity ≤ q.length then q.drop 1 else q).Sublist q := by
    split
    · exact List.drop_sublist 1 q
    · exact List.Sublist.refl q
  have hlen : (if sampleCapacity ≤ q.length then q.drop 1 else q).length + 1 ≤ sampleCapacity := by
    have hcap := h.capacity
    split
    · next hfull => rw [List.length_drop, Nat.le_antisymm hcap hfull]; decide
    · omega
  refine ⟨?_, List.pairwise_append.mpr ⟨h.ordered.sublist hsub, List.pairwise_singleton _ _, fun a ha b hb => ?_⟩,
    fun d hd => ⟨e.stamp, hx, ?_⟩⟩
  · rw [appendEntry, List.length_append, List.length_singleton]; exact hlen
  · rw [List.mem_singleton.mp hb]; exact hlt a (hsub.subset ha)
  · rcases List.mem_append.mp hd with hd | hd
    · exact (hlt d (hsub.subset hd)).le
    · rw [List.mem_singleton.mp hd]

theorem Intake.Stamped.joinLeft {i : Intake} {t : Nat} (h : i.Stamped .headL t) (v : HeadVals) (clamp : Bool) :
    IntakeInv { i with queueL := appendEntry i.queueL { stamp := t, vals := v, clamp } } :=
  ⟨h.inv.queueL.append h.stamp (h.left rfl), h.inv.queueR, h.inv.queueI, h.inv.live⟩

theorem Intake.Stamped.joinRight {i : Intake} {t : Nat} (h : i.Stamped .headR t) (v : HeadVals) (clamp : Bool) :
    IntakeInv { i with queueR := appendEntry i.queueR { stamp := t, vals := v, clamp } } :=
  ⟨h.inv.queueL, h.inv.queueR.append h.stamp (h.right rfl), h.inv.queueI, h.inv.live⟩

theorem Intake.Stamped.joinInertial {i : Intake} {t : Nat} (h : i.Stamped .inertial t) (v : InertialVals)
    (clamp : Bool) : IntakeInv { i with queueI := appendEntry i.queueI { stamp := t, vals := v, clamp } } :=
  ⟨h.inv.queueL, h.inv.queueR, h.inv.queueI.append h.stamp (h.inertial rfl), h.inv.live⟩

/-- The counters of a sample that enters its queue leave the stamped INTAKE as it is. -/
theorem queued_leads (c : Source) (isLate isOverrun : Bool) (t : Nat) (s : State) :
    Leads (Intake.Stamped c t) (Intake.Stamped c t) s (updateUnit c (·.queued isLate isOverrun) s) := by
  refine .of_intake _ rfl fun i => ⟨?_, ?_, i.left, i.right, i.inertial⟩
  · exact i.inv.setUnit c _ (fun a ha => ⟨a, ha, Nat.le_refl _⟩) (i.inv.live c)
  · simpa [SourceUnit.queued] using i.stamp

theorem queueHead_leads (left : Bool) (v : HeadVals) (t : Nat) (s : State) :
    Leads (Intake.Stamped (if left then .headL else .headR) t) IntakeInv s (queueHead left v t s) := by
  refine .ite ((Leads.refl s).weaken fun _ i => i.inv) ((examine_bounded _).after
    ((queued_leads _ (atOrBelow s.intake.refTime t)
      (overruns s.intake.refTime (if left then s.intake.queueL else s.intake.queueR)) t s).trans ?_))
  cases left
  · exact .of_intake _ rfl fun i => i.joinRight v false
  · exact .of_intake _ rfl fun i => i.joinLeft v false

theorem queueInertial_leads (v : InertialVals) (clamp : Bool) (t : Nat) (s : State) :
    Leads (Intake.Stamped .inertial t) IntakeInv s (queueInertial v clamp t s) :=
  .ite ((Leads.refl s).weaken fun _ i => i.inv) ((examine_bounded _).after
    ((queued_leads _ _ _ t s).trans (.of_intake _ rfl fun i => i.joinInertial v clamp)))

theorem takeSample_bounded (c : Source) (w : List Word) (s : State) : Bounded s (takeSample c w s) := by
  have head (left : Bool) : Bounded s (headSample left w s) :=
    .ite (stampSample_bounded _ _ (queueHead_leads left _) s) (updateUnit_bounded _ _ s fun _ => ⟨rfl, rfl, rfl⟩)
  cases c with
  | headL => exact head true
  | headR => exact head false
  | inertial =>
    refine (stampSample_bounded _ _ (queueInertial_leads _ _) _).after (.ite ?_ (.refl s))
    exact updateUnit_bounded _ _ s fun _ => ⟨rfl, rfl, rfl⟩
  | marker =>
    refine .ite (updateUnit_bounded _ _ s fun _ => ⟨rfl, rfl, rfl⟩) (stampSample_bounded _ _ (fun t x => ?_) s)
    refine Leads.weaken ((takeMarkerRead_bounded _ _ _ _).after ?_) fun _ i => i.inv
    exact updateUnit_bounded _ _ x fun _ => ⟨rfl, rfl, rfl⟩

theorem validSensorFrame_bounded (c : Source) (w : List Word) (s : State) : Bounded s (validSensorFrame c w s) := by
  have k : Bounded s (takeSample c w (updateUnit c (·.track (seqField w)) (refreshLiveness c s))) :=
    (takeSample_bounded c w _).after
      ((updateUnit_bounded c (·.track (seqField w)) _ fun _ => ⟨rfl, rfl, rfl⟩).after (refreshLiveness_bounded c s))
  exact .ite k ((tellGrid_bounded c _).after k)

theorem badSensorFrame_bounded (c : Source) (s : State) : Bounded s (badSensorFrame c s) :=
  updateUnit_bounded c _ s fun _ => ⟨rfl, rfl, rfl⟩

theorem sensorFrame_bounded (c : Source) (bytes : List Byte) (s : State) : Bounded s (sensorFrame c bytes s) := by
  refine .ite ?_ (.refl s)
  have k : Bounded s (if (receive bytes).corrected = true then
      updateUnit c (fun u => { u with correctedHeaders := inc16 u.correctedHeaders }) s else s) :=
    .ite (updateUnit_bounded c _ s fun _ => ⟨rfl, rfl, rfl⟩) (.refl s)
  dsimp only
  split
  · exact (badSensorFrame_bounded c _).after k
  · refine Leads.after (.ite ?_ (.ite (badSensorFrame_bounded c _) (validSensorFrame_bounded c _ _))) k
    exact updateUnit_bounded c _ _ fun _ => ⟨rfl, rfl, rfl⟩

/-! ### Authority and the client ports -/

theorem setHolder_bounded (h : Option PortId) (cause : AuthCause) (s : State) : Bounded s (setHolder h cause s) :=
  .of_eq rfl

theorem answerClaim_bounded (q : PortId) (respond : Byte → State → State) (h : ∀ b t, Bounded t (respond b t))
    (s : State) : Bounded s (answerClaim q respond s) := by
  unfold answerClaim; split
  · exact (setInService_bounded _ _ _).after (h _ s)
  · exact .refl s

theorem passTo_bounded (q : PortId) (cause : AuthCause) (s : State) : Bounded s (passTo q cause s) :=
  (answerClaim_bounded q _ (fun tag t => reply_bounded q tag _ t) _).after (setHolder_bounded _ cause s)

theorem refuseClaim_bounded (q : PortId) (why : Reason) (s : State) : Bounded s (refuseClaim q why s) :=
  answerClaim_bounded q _ (fun tag t => refuse_bounded q _ tag why 0 t) s

theorem clearClaim_bounded (s : State) : Bounded s (clearClaim s) := .of_eq rfl

theorem dropAuthority_bounded (p : PortId) (s : State) : Bounded s (dropAuthority p s) := by
  unfold dropAuthority
  refine .ite ?_ (.ite (clearClaim_bounded s) (.refl s))
  split
  · exact passTo_bounded _ _ s
  · exact setHolder_bounded _ _ s

theorem yieldDeadline_bounded (s : State) : Bounded s (yieldDeadline s) := by
  unfold yieldDeadline; split
  · exact .ite (passTo_bounded _ _ s) (.refl s)
  · exact .refl s

theorem dropPendingEnd_bounded (p : PortId) (s : State) : Bounded s (dropPendingEnd p s) := by
  unfold dropPendingEnd; split
  · exact .ite (.of_eq rfl) (.refl s)
  · exact .refl s

theorem leaveActive_bounded (p : PortId) (dest : PortState) (s : State) : Bounded s (leaveActive p dest s) :=
  (dropAuthority_bounded p _).after ((dropPendingEnd_bounded p _).after (.of_eq rfl))

theorem clientLinkDown_bounded (p : PortId) (s : State) : Bounded s (clientLinkDown p s) :=
  (setPort_bounded p _ _).after (.ite (leaveActive_bounded p _ s) (.refl s))

theorem clientLinkUp_bounded (p : PortId) (s : State) : Bounded s (clientLinkUp p s) :=
  .ite (setPort_bounded p _ s) (.refl s)

theorem presenceDeadline_bounded (p : PortId) (s : State) : Bounded s (presenceDeadline p s) := by
  unfold presenceDeadline; split
  · exact .ite ((setPort_bounded p _ _).after (leaveActive_bounded p _ s)) (.refl s)
  · exact .refl s

theorem badClientFrame_bounded (p : PortId) (why : BadCause) (s : State) : Bounded s (badClientFrame p why s) := by
  refine .ite (.ite ?_ (setPort_bounded p _ s)) (setPort_bounded p _ s)
  exact (setPort_bounded p _ _).after ((leaveActive_bounded p _ _).after (setPort_bounded p _ s))

theorem clientFrame_bounded (p : PortId) (bytes : List Byte) (s : State) : Bounded s (clientFrame p bytes s) := by
  refine .ite (.refl s) ?_
  have k : Bounded s (if (receive bytes).corrected = true then s.setPort p (s.port p).corrected else s) :=
    .ite (setPort_bounded p _ s) (.refl s)
  dsimp only
  split
  · exact (badClientFrame_bounded p _ _).after k
  · exact (setPort_bounded p _ _).after k

theorem transmitStart_bounded (p : PortId) (s : State) : Bounded s (transmitStart p s) := by
  refine .ite ?_ (.refl s)
  split
  · exact setPort_bounded p _ s
  · split
    · exact (streamBuild_bounded p _).after (setPort_bounded p _ s)
    · exact .refl s

/-! ### Requests -/

theorem serveWhen_bounded (isKind : Byte → Bool) (p : PortId) (body : Request → State → State)
    (h : ∀ r t, Bounded t (body r t)) (s : State) : Bounded s (serveWhen isKind p body s) := by
  rcases serveWhen_cases isKind p body s with e | ⟨r, rest, -, -, -, -, e⟩
  · rw [e]; exact .refl s
  · rw [e]; exact (h r _).after (setPort_bounded p _ s)

theorem serveKind_bounded (k : RequestKind) (ok : Nat → Bool) (p : PortId) (body : Request → State → State)
    (h : ∀ r t, Bounded t (body r t)) (s : State) : Bounded s (serveKind k ok p body s) :=
  serveWhen_bounded _ p _ (fun r t => .ite (h r t) (refuse_bounded _ _ _ _ _ t)) s

theorem serveHolder_bounded (k : RequestKind) (ok : Nat → Bool) (p : PortId) (body : Request → State → State)
    (h : ∀ r t, Bounded t (body r t)) (s : State) : Bounded s (serveHolder k ok p body s) :=
  serveKind_bounded k ok p _ (fun r t => .ite (h r t) (refuse_bounded _ _ _ _ _ t)) s

/-! ### Values at a run start and at resets (R23, R42, R89, R113) -/

theorem QueueOk.nil {α : Type} (x : Option Nat) : QueueOk ([] : List (Entry α)) x :=
  ⟨Nat.zero_le _, List.Pairwise.nil, fun _ he => absurd he List.not_mem_nil⟩

/-- The empty queues of a run start and of RESET_PART are in form, and so is every unit that keeps its state and its
deadline. -/
theorem IntakeInv.cleared {i : Intake} (h : IntakeInv i) (v : PerSource SourceUnit) (x : Option Nat)
    (hv : ∀ c, (v.get c).state = (i.units.get c).state ∧ (v.get c).deadline = (i.units.get c).deadline) :
    IntakeInv { units := v, queueL := [], queueR := [], queueI := [], refTime := x } := by
  refine ⟨.nil _, .nil _, .nil _, fun c => ?_⟩
  rw [(hv c).1, (hv c).2]; exact h.live c

/-- Reset values of GEO and an empty ring are in bounds, under a history that is. -/
theorem buffersInv_of_reset (h : s.odo.history.length ≤ historyCapacity) (hg : s.geo = Geo.reset)
    (hs : s.store.slots = []) : BuffersInv s := by
  have ok : Integrator.Ok ⟨0, 0⟩ := ⟨by decide, by decide⟩
  refine ⟨h, ?_, ?_, ?_, ?_, ?_, ?_, ?_⟩
  · rw [hg]; exact Nat.zero_le _
  · rw [hg]; exact Nat.zero_le _
  · rw [hg]; exact ok
  · rw [hg]; exact ok
  · rw [hg]; exact ok
  · rw [hs]; exact List.Pairwise.nil
  · rw [hs]; exact fun x hx => absurd hx List.not_mem_nil

section Bodies

variable (p : PortId) (r : Request) (s : State)

theorem setLinkBody_bounded : Bounded s (setLinkBody p r s) := by
  unfold setLinkBody; split
  · exact refuse_bounded _ _ _ _ _ s
  · exact .ite ((streamBuild_bounded p _).after (.of_eq rfl)) (.of_eq rfl)

theorem readStatusBody_bounded : Bounded s (readStatusBody p r s) :=
  .ite (refuse_bounded _ _ _ _ _ s) (.ite (.of_eq rfl) (.of_eq rfl))

theorem readTableBody_bounded : Bounded s (readTableBody p r s) := by
  unfold readTableBody; dsimp only
  split
  · exact reply_bounded _ _ _ s
  · exact .ite (refuse_bounded _ _ _ _ _ s) (reply_bounded _ _ _ s)
  · exact reply_bounded _ _ _ s
  · exact reply_bounded _ _ _ s
  · exact refuse_bounded _ _ _ _ _ s

theorem readPointsBody_bounded : Bounded s (readPointsBody p r s) := by
  refine .ite (refuse_bounded _ _ _ _ _ s) ?_
  split
  · exact refuse_bounded _ _ _ _ _ s
  · exact .ite (refuse_bounded _ _ _ _ _ s) (.ite (refuse_bounded _ _ _ _ _ s) (reply_bounded _ _ _ s))

theorem streamPointsBody_bounded : Bounded s (streamPointsBody p r s) := by
  refine .ite (refuse_bounded _ _ _ _ _ s) ((streamBuild_bounded p _).after ((runOverTest_bounded p _).after
    ((gapTest_bounded p _).after ((reply_bounded _ _ _ _).after ((setStream_bounded p _ _).after ?_)))))
  exact endStream_bounded p _ s

theorem stopStreamBody_bounded : Bounded s (stopStreamBody p r s) :=
  .ite ((reply_bounded _ _ _ _).after (endStream_bounded p _ s)) (reply_bounded _ _ _ s)

theorem ackUrgentBody_bounded : Bounded s (ackUrgentBody p r s) := by
  unfold ackUrgentBody; dsimp only
  split
  · exact refuse_bounded _ _ _ _ _ s
  · split <;> exact .of_eq rfl

theorem claimBody_bounded : Bounded s (claimBody p r s) := by
  unfold claimBody; dsimp only
  split
  · exact .of_eq rfl
  · refine .ite (reply_bounded _ _ _ s) ?_
    split
    · exact refuse_bounded _ _ _ _ _ s
    · exact .of_eq rfl

theorem yieldBody_bounded : Bounded s (yieldBody p r s) := by
  refine .ite (refuse_bounded _ _ _ _ _ s) ?_
  split
  · exact refuse_bounded _ _ _ _ _ s
  · exact (passTo_bounded _ _ s).still rfl

theorem keepBody_bounded : Bounded s (keepBody p r s) := by
  refine .ite (refuse_bounded _ _ _ _ _ s) ?_
  split
  · exact refuse_bounded _ _ _ _ _ s
  · exact ((refuseClaim_bounded _ _ _).after (clearClaim_bounded s)).still rfl

theorem releaseBody_bounded : Bounded s (releaseBody p r s) := by
  refine .ite (refuse_bounded _ _ _ _ _ s) ?_
  split
  · exact .of_eq rfl
  · exact (passTo_bounded _ _ s).still rfl

theorem loadSettingsBody_bounded : Bounded s (loadSettingsBody p r s) := by
  refine .ite (refuse_bounded _ _ _ _ _ s) ?_
  dsimp only
  split
  · exact refuse_bounded _ _ _ _ _ s
  · exact (reply_bounded _ _ _ _).after ((takeDueEdges_bounded _).after (.of_eq rfl))

theorem loadThresholdsBody_bounded : Bounded s (loadThresholdsBody p r s) := by
  refine .ite (refuse_bounded _ _ _ _ _ s) (.ite (refuse_bounded _ _ _ _ _ s) ?_)
  split
  · exact refuse_bounded _ _ _ _ _ s
  · exact .of_eq rfl

theorem sectionPutBody_bounded : Bounded s (sectionPutBody p r s) := by
  unfold sectionPutBody
  split
  · exact refuse_bounded _ _ _ _ _ s
  · split
    · exact refuse_bounded _ _ _ _ _ s
    · exact .of_eq rfl

theorem sectionDropBody_bounded : Bounded s (sectionDropBody p r s) := by
  unfold sectionDropBody; dsimp only
  split
  · exact refuse_bounded _ _ _ _ _ s
  · exact .ite (.of_eq rfl) (refuse_bounded _ _ _ _ _ s)

theorem sectionClearBody_bounded : Bounded s (sectionClearBody p r s) :=
  .ite (.of_eq rfl) (refuse_bounded _ _ _ _ _ s)

theorem markerPutBody_bounded : Bounded s (markerPutBody p r s) := .ite (refuse_bounded _ _ _ _ _ s) (.of_eq rfl)

theorem markerDropBody_bounded : Bounded s (markerDropBody p r s) := .ite (.of_eq rfl) (refuse_bounded _ _ _ _ _ s)

theorem markerClearBody_bounded : Bounded s (markerClearBody p r s) := .ite (.of_eq rfl) (refuse_bounded _ _ _ _ _ s)

theorem manualFixBody_bounded : Bounded s (manualFixBody p r s) :=
  .ite (refuse_bounded _ _ _ _ _ s) (.ite (.of_eq rfl) (refuse_bounded _ _ _ _ _ s))

/-! ### Runs and resets -/

theorem prepareRun_bounded (x : RunRecord) (s : State) : Bounded s (prepareRun x s) :=
  (endAllStreams_bounded .newRun s).trans
    ⟨fun _ => buffersInv_of_reset (Nat.succ_le_succ (Nat.zero_le _)) rfl rfl,
      fun i => i.cleared _ _ fun _ => ⟨rfl, rfl⟩, Nat.le_refl _⟩

theorem beginRun_bounded (s : State) : Bounded s (beginRun s) := (createPoint_bounded _ _ _ _).after (.of_eq rfl)

theorem startRunBody_bounded : Bounded s (startRunBody p r s) := by
  refine .ite (refuse_bounded _ _ _ _ _ s) (.ite (refuse_bounded _ _ _ _ _ s) (.ite (refuse_bounded _ _ _ _ _ s) ?_))
  exact (reply_bounded _ _ _ _).after ((runNotice_bounded _ _).after ((beginRun_bounded _).after
    (prepareRun_bounded _ s)))

theorem endRunBody_bounded : Bounded s (endRunBody p r s) :=
  .ite (refuse_bounded _ _ _ _ _ s) ((finishTest_bounded _).after (.of_eq rfl))

theorem partBlocks_bounded : Bounded s (partBlocks s) :=
  ⟨fun _ => buffersInv_of_reset (Nat.zero_le _) rfl rfl, fun i => i.cleared _ _ fun c => by cases c <;> exact ⟨rfl, rfl⟩,
    Nat.le_refl _⟩

theorem refuseClaimant_bounded : Bounded s (refuseClaimant s) := by
  unfold refuseClaimant; split
  · exact refuseClaim_bounded _ _ s
  · exact .refl s

theorem refusePendingEnd_bounded : Bounded s (refusePendingEnd s) := by
  unfold refusePendingEnd; split
  · exact .of_eq rfl
  · exact .refl s

theorem resetNotices_bounded (w c : Option Nat) : Bounded s (resetNotices w c s) := by
  have k : Bounded s (endAllStreams .reset (s.mapPorts fun q => { q with notices := [] })) :=
    (endAllStreams_bounded _ _).after (.of_eq rfl)
  exact .ite (k.still rfl) (k.still rfl)

theorem resetPartBody_bounded : Bounded s (resetPartBody p r s) :=
  (reply_bounded _ _ _ _).after ((resetNotices_bounded _ _ _).after ((refusePendingEnd_bounded _).after
    ((refuseClaimant_bounded _).after (partBlocks_bounded s))))

theorem hardReset_bounded : Bounded s (hardReset s) := by
  refine ⟨fun _ => buffersInv_of_reset (Nat.zero_le _) rfl rfl, fun _ => ?_, Nat.zero_le _⟩
  refine ⟨.nil _, .nil _, .nil _, fun c => ?_⟩
  cases c <;> exact iff_of_false SourceState.noConfusion Bool.false_ne_true

end Bodies

/-! ### Commands and steps -/

/-- Every command completes, and keeps the buffers in bounds. -/
theorem exec_bounded (c : Instr) (s : State) : ∃ t, exec c s = .next t ∧ Bounded s t := by
  cases c with
  | powerOn => exact ⟨_, rfl, hardReset_bounded s⟩
  | resetn => exact ⟨_, rfl, hardReset_bounded s⟩
  | timebaseWrap => exact ⟨_, rfl, .ite (hardReset_bounded s) (.refl s)⟩
  | tachRawChange l level => exact ⟨_, rfl, rawChange_bounded l level s⟩
  | tachEdgeValidated l => exact ⟨_, rfl, takeEdge_bounded l s⟩
  | spacingPulseStart => exact ⟨_, rfl, spacingStart_bounded s⟩
  | spacingPulseEnd => exact ⟨_, rfl, spacingEnd_bounded s⟩
  | sensorFrameArrival c bytes => exact ⟨_, rfl, sensorFrame_bounded c bytes s⟩
  | sensorLinkDown c => exact ⟨_, rfl, sensorLinkDown_bounded c s⟩
  | sensorLinkUp c => exact ⟨_, rfl, sensorLinkUp_bounded c s⟩
  | sourceStaleDeadline c => exact ⟨_, rfl, staleDeadline_bounded c s⟩
  | alignDeadline => exact ⟨_, rfl, alignDeadline_bounded s⟩
  | clientFrameArrival p bytes => exact ⟨_, rfl, clientFrame_bounded p bytes s⟩
  | clientLinkDown p => exact ⟨_, rfl, clientLinkDown_bounded p s⟩
  | clientLinkUp p => exact ⟨_, rfl, clientLinkUp_bounded p s⟩
  | presenceDeadline p => exact ⟨_, rfl, presenceDeadline_bounded p s⟩
  | transmitFrameStart p => exact ⟨_, rfl, transmitStart_bounded p s⟩
  | transmitFrameEnd p => exact ⟨_, rfl, setPort_bounded p _ s⟩
  | yieldDeadline => exact ⟨_, rfl, yieldDeadline_bounded s⟩
  | presence p => exact ⟨_, rfl, serveKind_bounded _ _ p (presenceBody p) (fun _ _ => .of_eq rfl) s⟩
  | echo p => exact ⟨_, rfl, serveKind_bounded _ _ p (echoBody p) (fun _ _ => .of_eq rfl) s⟩
  | identify p => exact ⟨_, rfl, serveKind_bounded _ _ p (identifyBody p) (fun _ _ => .of_eq rfl) s⟩
  | setLink p => exact ⟨_, rfl, serveKind_bounded _ _ p _ (setLinkBody_bounded p) s⟩
  | readStatus p => exact ⟨_, rfl, serveKind_bounded _ _ p _ (readStatusBody_bounded p) s⟩
  | readTable p => exact ⟨_, rfl, serveKind_bounded _ _ p _ (readTableBody_bounded p) s⟩
  | readPoints p => exact ⟨_, rfl, serveKind_bounded _ _ p _ (readPointsBody_bounded p) s⟩
  | streamPoints p => exact ⟨_, rfl, serveKind_bounded _ _ p _ (streamPointsBody_bounded p) s⟩
  | stopStream p => exact ⟨_, rfl, serveKind_bounded _ _ p _ (stopStreamBody_bounded p) s⟩
  | readExceedances p => exact ⟨_, rfl, serveKind_bounded _ _ p (readExceedancesBody p) (fun _ _ => .of_eq rfl) s⟩
  | ackUrgent p => exact ⟨_, rfl, serveKind_bounded _ _ p _ (ackUrgentBody_bounded p) s⟩
  | claim p => exact ⟨_, rfl, serveKind_bounded _ _ p _ (claimBody_bounded p) s⟩
  | yield p => exact ⟨_, rfl, serveKind_bounded _ _ p _ (yieldBody_bounded p) s⟩
  | keep p => exact ⟨_, rfl, serveKind_bounded _ _ p _ (keepBody_bounded p) s⟩
  | release p => exact ⟨_, rfl, serveKind_bounded _ _ p _ (releaseBody_bounded p) s⟩
  | rejoin p => exact ⟨_, rfl, serveKind_bounded _ _ p (rejoinBody p) (fun _ _ => .of_eq rfl) s⟩
  | loadSettings p => exact ⟨_, rfl, serveHolder_bounded _ _ p _ (loadSettingsBody_bounded p) s⟩
  | loadThresholds p => exact ⟨_, rfl, serveHolder_bounded _ _ p _ (loadThresholdsBody_bounded p) s⟩
  | sectionPut p => exact ⟨_, rfl, serveHolder_bounded _ _ p _ (sectionPutBody_bounded p) s⟩
  | sectionDrop p => exact ⟨_, rfl, serveHolder_bounded _ _ p _ (sectionDropBody_bounded p) s⟩
  | sectionClear p => exact ⟨_, rfl, serveHolder_bounded _ _ p _ (sectionClearBody_bounded p) s⟩
  | markerPut p => exact ⟨_, rfl, serveHolder_bounded _ _ p _ (markerPutBody_bounded p) s⟩
  | markerDrop p => exact ⟨_, rfl, serveHolder_bounded _ _ p _ (markerDropBody_bounded p) s⟩
  | markerClear p => exact ⟨_, rfl, serveHolder_bounded _ _ p _ (markerClearBody_bounded p) s⟩
  | startRun p => exact ⟨_, rfl, serveHolder_bounded _ _ p _ (startRunBody_bounded p) s⟩
  | endRun p => exact ⟨_, rfl, serveHolder_bounded _ _ p _ (endRunBody_bounded p) s⟩
  | manualFix p => exact ⟨_, rfl, serveHolder_bounded _ _ p _ (manualFixBody_bounded p) s⟩
  | resetPart p => exact ⟨_, rfl, serveHolder_bounded _ _ p _ (resetPartBody_bounded p) s⟩
  | unknownKindRequest p => exact ⟨_, rfl, serveWhen_bounded _ p (unknownKindBody p) (fun _ _ => .of_eq rfl) s⟩

/-- The events that an idle step takes keep the buffers in bounds. -/
theorem takeDue_bounded (s : State) : Bounded s (takeDue s) :=
  (spacingStart_bounded _).after ((spacingEnd_bounded _).after ((yieldDeadline_bounded _).after
    ((Leads.foldl (fun t p => presenceDeadline_bounded p t) _ _).after ((alignDeadline_bounded _).after
      ((Leads.foldl (fun t c => staleDeadline_bounded c t) _ _).after (takeDueEdges_bounded s))))))

/-- Time passes without a change of the buffers. -/
theorem BuffersInv.setNow {s : State} (h : BuffersInv s) (n : Nat) : BuffersInv { s with now := n } :=
  ⟨h.history, h.chord, h.cants, h.vl, h.vr, h.lat, h.ring, h.slots⟩

/-- Settles O59: each command by the lemma on its own events, and the idle step by those on the events that it takes;
the count rises by one only below 2^48 - 1. -/
theorem stepsKeepTheBuffersAndTheCount : Obligations.StepsKeepTheBuffersAndTheCount := by
  intro s t h
  unfold step at h
  split at h
  · next c rest _ =>
    obtain ⟨u, hu, k⟩ := exec_bounded c { s with pending := rest }
    obtain rfl : u = t := by rw [hu] at h; cases h; rfl
    have k' : Bounded s u := k.after (.of_eq rfl)
    exact ⟨k'.buffers, k'.intake, fun hn => k'.now.trans hn⟩
  · cases h
    unfold tick
    split
    · have k := hardReset_bounded s
      exact ⟨k.buffers, k.intake, fun hn => k.now.trans hn⟩
    · next hn =>
      have k := takeDue_bounded s
      refine ⟨fun b => (k.buffers b).setNow _, k.intake, fun _ => ?_⟩
      have := k.now
      show (takeDue s).now + 1 ≤ timebaseEnd
      omega

end Sys2Proof.Machine
end

section
/-!
PROOFS. Rounding (R1) and the reset state (R2, R23, R42, R60, R89, R113, R134, R150, R174, R191, R209, R217).
-/

namespace Sys2Proof.Machine

/-- The multiple of the divisor that a rounding picks: that of the magnitude, with the sign of the dividend. -/
theorem roundDiv_mul (a : Int) (b : Nat) :
    roundDiv a b * b = (if a < 0 then -1 else 1) * (((2 * a.natAbs + b) / (2 * b) * b : Nat) : Int) := by
  unfold roundDiv
  split
  · rw [Int.natCast_mul, Int.neg_mul, Int.neg_one_mul]
  · rw [Int.natCast_mul, Int.one_mul]

/-- Settles O5: the multiple of `b` that the rounding picks lies at most half of `b` below the magnitude of `a`, and less
than half above, on the side of zero that `a` lies on. -/
theorem roundingIsToNearestTiesAway : Obligations.RoundingIsToNearestTiesAway := by
  intro a b hb
  rw [roundDiv_mul]
  have hlow := Nat.div_mul_le_self (2 * a.natAbs + b) (2 * b)
  have hhigh := Nat.lt_div_mul_add (a := 2 * a.natAbs + b) (b := 2 * b) (by omega)
  rw [Nat.mul_left_comm] at hlow hhigh
  generalize (2 * a.natAbs + b) / (2 * b) * b = m at *
  split <;> omega

/-- Settles O3: the three commands share `hardReset`, whose fields are read off it. -/
theorem resetsGiveTheResetState : Obligations.ResetsGiveTheResetState := by
  intro s
  refine ⟨hardReset s, rfl, rfl, ?_, ?_, rfl, rfl, ?_, rfl, ?_, rfl, rfl, rfl, rfl, rfl, rfl, rfl, ?_, rfl, rfl, rfl⟩
  · intro h
    exact congrArg Host.Outcome.next (if_pos h)
  · intro h
    exact congrArg Host.Outcome.next (if_neg (Nat.not_le.mpr h))
  · intro l; cases l <;> rfl
  · intro c; cases c <;> rfl
  · intro p; cases p <;> rfl

end Sys2Proof.Machine
end

section
/-!
PROOFS. Statuses, ranges and the writing of a parameter, said once (R3, R79, R80, R95); and GAUGE, CANT, TWIST and CURV of
a raw point (R72 to R75).
-/

namespace Sys2Proof.Machine

/-! ### Statuses (R3, R80) -/

/-- Of a status and others, the first two may be joined first. -/
theorem worst_cons_cons (a b : Status) (l : List Status) : worst (a :: b :: l) = worst (a.join b :: l) := by
  cases a <;> cases b <;> simp [worst, Status.join, Status.code]

/-- The joined status is the worst of those joined. -/
theorem joinAll_eq_worst (l : List Status) : Status.joinAll l = worst l := by
  have fold (a : Status) : l.foldl Status.join a = worst (a :: l) := by
    induction l generalizing a with
    | nil => cases a <;> rfl
    | cons b l ih => rw [List.foldl_cons, ih, worst_cons_cons]
  refine (fold .good).trans ?_
  simp [worst]

theorem worst_eq_void {l : List Status} : worst l = .void ↔ .void ∈ l := by
  unfold worst
  split
  · next h => exact iff_of_true rfl h
  · next h =>
    refine iff_of_false ?_ h
    split
    · decide
    · split <;> decide

theorem join_eq_worst (a b : Status) : a.join b = worst [a, b] := by
  rw [worst_cons_cons]; cases a.join b <;> rfl

theorem contribution_eq_void {st : Status} {clamp : Bool} : contribution st clamp = .void ↔ st = .void := by
  unfold contribution
  split
  · next h => exact iff_of_true rfl h
  · next h => refine iff_of_false ?_ h; split
              · decide
              · exact h

/-! ### Ranges (R79) -/

theorem limitParam_void (p : Param) (v : Int) : limitParam p v .void = ⟨0, .void, false⟩ := rfl

/-- A value that is not VOID: limited to its range, and CLAMPED where it lay beyond it. -/
theorem limitParam_value {p : Param} {v : Int} {st : Status} (h : st ≠ .void) :
    limitParam p v st =
      { value := max p.range.1 (min p.range.2 v),
        status := if v < p.range.1 ∨ p.range.2 < v then .clamped else st,
        limited := decide (v < p.range.1 ∨ p.range.2 < v) } := by
  have hr : p.range.1 ≤ p.range.2 := by cases p <;> decide
  by_cases hb : v < p.range.1 ∨ p.range.2 < v
  · simp [limitParam, h, beyond, hb, limit_eq hr]
  · have hv : max p.range.1 (min p.range.2 v) = v := by omega
    simp [limitParam, h, beyond, hb, hv]

/-- What a parameter holds whose value is `v` and whose status is `st` where it is `valid`: limited to `lo` to `hi` and
CLAMPED where it lay beyond them; else VOID with value 0 and not limited (R79). -/
structure Limited.Gives (x : Limited) (lo hi v : Int) (valid : Prop) (st : Status) : Prop where
  value : valid → x.value = max lo (min hi v)
  status : valid → x.status = if v < lo ∨ hi < v then .clamped else st
  void : ¬valid → x.value = 0 ∧ x.status = .void
  limited : x.limited = true ↔ valid ∧ (v < lo ∨ hi < v)

theorem limitParam_gives (p : Param) (v : Int) (st : Status) {valid : Prop} (h : st ≠ .void ↔ valid) :
    (limitParam p v st).Gives p.range.1 p.range.2 v valid st := by
  by_cases hs : st = .void
  · have hv : ¬valid := fun k => h.mpr k hs
    subst hs
    exact ⟨fun k => absurd k hv, fun k => absurd k hv, fun _ => ⟨rfl, rfl⟩, by simp [limitParam_void, hv]⟩
  · have hv : valid := h.mp hs
    rw [limitParam_value hs]
    exact ⟨fun _ => rfl, fun _ => rfl, fun k => absurd hv k, by simp [hv]⟩

/-- GAUGE is VOID where a head is, else the sum of R72 with the worst of the heads' statuses. -/
theorem gaugeOf_gives (c : Settings) (rp : RawPoint) :
    (gaugeOf c rp).Gives (-32768) 32767 (c.headSpan + rp.headL.g + rp.headR.g - c.nominalGauge)
      (rp.statusL ≠ .void ∧ rp.statusR ≠ .void)
      (worst [contribution rp.statusL rp.clampL, contribution rp.statusR rp.clampR]) := by
  rw [← joinAll_eq_worst]
  refine limitParam_gives .gauge _ _ ?_
  simp [joinAll_eq_worst, worst_eq_void, eq_comm (a := Status.void), contribution_eq_void]

/-- CANT is VOID where a head or INERTIAL is, else the sum of R73 with the worst of the three statuses. -/
theorem cantOf_gives (c : Settings) (rp : RawPoint) :
    (cantOf c rp).Gives (-32768) 32767 (roundDiv (c.cantBase * rp.inertial.theta) 1000000 + rp.headL.h - rp.headR.h)
      ((rp.statusL ≠ .void ∧ rp.statusR ≠ .void) ∧ rp.statusI ≠ .void)
      (worst [contribution rp.statusL rp.clampL, contribution rp.statusR rp.clampR,
        contribution rp.statusI rp.clampI]) := by
  rw [← joinAll_eq_worst]
  refine limitParam_gives .cant _ _ ?_
  simp [joinAll_eq_worst, worst_eq_void, eq_comm (a := Status.void), contribution_eq_void, and_assoc]

/-- CURV is VOID at a LOWSPEED point and where INERTIAL is, else the quotient of R75 with INERTIAL's status. -/
theorem curvOf_gives (low : Bool) (rp : RawPoint) :
    (curvOf low rp).Gives (-30000) 30000 (roundDiv (rp.inertial.omega * 1000) rp.speed)
      (low = false ∧ rp.statusI ≠ .void) (contribution rp.statusI rp.clampI) := by
  cases low
  · refine limitParam_gives .curv _ _ ?_
    simp [contribution_eq_void]
  · exact ⟨fun k => absurd k.1 (by decide), fun k => absurd k.1 (by decide), fun _ => ⟨rfl, rfl⟩, by
      simp [curvOf, limitParam_void]⟩

/-! ### A parameter written into its point (R79, R92, R95) -/

/-- From `s` to `t`, nothing changes but slots, the cant history and the limit counters of the parameters. -/
def WritesParams (s t : State) : Prop :=
  ∃ cants clamps slots, t = { s with
    geo := { s.geo with cants := cants, valueClamps := clamps }, store := { s.store with slots := slots } }

theorem WritesParams.refl (s : State) : WritesParams s s := ⟨_, _, _, rfl⟩

theorem WritesParams.trans {a b c : State} (h : WritesParams a b) (k : WritesParams b c) : WritesParams a c := by
  obtain ⟨l, n, x, rfl⟩ := h
  obtain ⟨l', n', x', rfl⟩ := k
  exact ⟨l', n', x', rfl⟩

theorem WritesParams.eq {s t : State} (h : WritesParams s t) :
    t = { s with
      geo := { s.geo with cants := t.geo.cants, valueClamps := t.geo.valueClamps },
      store := { s.store with slots := t.store.slots } } := by
  obtain ⟨l, n, x, rfl⟩ := h; rfl

section

variable (k : Nat) (p : Param) (x : Limited) (s : State)

theorem writeParam_writes : WritesParams s (writeParam k p x s) := by
  unfold writeParam; dsimp only
  rw [writePoint_frame]
  split <;> exact ⟨_, _, _, rfl⟩

/-- A parameter's limit counter counts the limiting of its own value. -/
theorem writeParam_clamps (q : Param) :
    (writeParam k p x s).geo.valueClamps.get q =
      if q = p ∧ x.limited = true then min 65535 (s.geo.valueClamps.get q + 1) else s.geo.valueClamps.get q := by
  unfold writeParam; dsimp only
  by_cases hx : x.limited = true
  · by_cases hq : q = p
    · simp [hx, hq, inc16_eq]
    · simp [hx, hq, PerParam.get_set_ite]
  · simp [hx]

/-- The point that was written holds the value and its status; every other is as it was. -/
theorem writeParam_point (j : Nat) :
    (writeParam k p x s).store.point j =
      if j = k then (s.store.point k).map fun r =>
        { r with values := r.values.set p x.value, statuses := r.statuses.set p x.status }
      else s.store.point j := by
  have h : (writeParam k p x s).store = s.store.write k fun r =>
      { r with values := r.values.set p x.value, statuses := r.statuses.set p x.status } := by
    unfold writeParam; dsimp only; split <;> rfl
  rw [h]; exact Store.point_write _ _ _ _

theorem writeParam_getSlot {n : Nat} (h : n ≠ slotOf k) :
    getSlot n (writeParam k p x s).store.slots = getSlot n s.store.slots := by
  unfold writeParam; dsimp only
  split <;> exact Store.getSlot_write_of_ne _ _ h

/-- The write to a point that its slot no longer holds is dropped (R92). -/
theorem writeParam_lost (h : s.store.point k = none) : (writeParam k p x s).store.slots = s.store.slots := by
  have hw : ∀ f, (writePoint k f s).store.slots = s.store.slots := fun f =>
    congrArg Store.slots (Store.write_of_lost h f)
  unfold writeParam; dsimp only
  split <;> exact hw _

@[simp] theorem writeParam_cants : (writeParam k p x s).geo.cants = s.geo.cants := by
  unfold writeParam; dsimp only; split <;> rfl

end

/-! ### The parameters of a raw point (R72 to R75) -/

/-- The cant history after a raw point (R74). -/
def cantsAfter (rp : RawPoint) (s : State) : List CantEntry :=
  newest cantCapacity (s.geo.cants ++
    [{ index := rp.index, value := (cantOf s.run.settings rp).value, status := (cantOf s.run.settings rp).status }])

/-- The part with its cant history replaced. -/
def State.withCants (s : State) (l : List CantEntry) : State := { s with geo := { s.geo with cants := l } }

section

variable (rp : RawPoint) (low : Bool) (s : State)

/-- Step 4 of R61 as four writes around one entry of the cant history. -/
theorem geoPoint_eq :
    geoPoint rp low s =
      writeParam rp.index .curv (curvOf low rp)
        (writeParam rp.index .twist (twistOf s.run.settings.twistBase (cantsAfter rp s) rp.index)
          ((writeParam rp.index .cant (cantOf s.run.settings rp)
              (writeParam rp.index .gauge (gaugeOf s.run.settings rp) s)).withCants (cantsAfter rp s))) := by
  have h : (writeParam rp.index .cant (cantOf s.run.settings rp)
      (writeParam rp.index .gauge (gaugeOf s.run.settings rp) s)).geo.cants = s.geo.cants :=
    (writeParam_cants _ _ _ _).trans (writeParam_cants _ _ _ _)
  rw [cantsAfter, ← h]
  delta geoPoint State.withCants
  with_reducible rfl

theorem geoPoint_writes : WritesParams s (geoPoint rp low s) := by
  rw [geoPoint_eq]
  refine WritesParams.trans ?_ ((writeParam_writes _ _ _ _).trans (writeParam_writes _ _ _ _))
  exact ((writeParam_writes _ _ _ s).trans (writeParam_writes _ _ _ _)).trans ⟨_, _, _, rfl⟩

@[simp] theorem geoPoint_cants : (geoPoint rp low s).geo.cants = cantsAfter rp s := by
  rw [geoPoint_eq, writeParam_cants, writeParam_cants]; rfl

/-- Each of the four parameters is counted where its value was limited. -/
theorem geoPoint_clamps (q : Param) :
    (geoPoint rp low s).geo.valueClamps.get q =
      if (q = .gauge ∧ (gaugeOf s.run.settings rp).limited = true) ∨
          (q = .cant ∧ (cantOf s.run.settings rp).limited = true) ∨
          (q = .twist ∧ (twistOf s.run.settings.twistBase (cantsAfter rp s) rp.index).limited = true) ∨
          (q = .curv ∧ (curvOf low rp).limited = true)
      then min 65535 (s.geo.valueClamps.get q + 1) else s.geo.valueClamps.get q := by
  rw [geoPoint_eq]
  simp only [writeParam_clamps, State.withCants]
  cases q <;> simp

/-- The point after its four parameters have been written. -/
def PointRec.withParams (x : PointRec) (gauge cant twist curv : Limited) : PointRec :=
  { x with
    values := { x.values with gauge := gauge.value, cant := cant.value, twist := twist.value, curv := curv.value },
    statuses := { x.statuses with
      gauge := gauge.status, cant := cant.status, twist := twist.status, curv := curv.status } }

/-- The point's slot takes the four parameters. -/
theorem geoPoint_point :
    (geoPoint rp low s).store.point rp.index = (s.store.point rp.index).map fun x =>
      x.withParams (gaugeOf s.run.settings rp) (cantOf s.run.settings rp)
        (twistOf s.run.settings.twistBase (cantsAfter rp s) rp.index) (curvOf low rp) := by
  rw [geoPoint_eq]
  simp only [writeParam_point, State.withCants, if_true]
  cases s.store.point rp.index <;> rfl

theorem geoPoint_getSlot {n : Nat} (h : n ≠ slotOf rp.index) :
    getSlot n (geoPoint rp low s).store.slots = getSlot n s.store.slots := by
  rw [geoPoint_eq, writeParam_getSlot _ _ _ _ h, writeParam_getSlot _ _ _ _ h]
  exact (writeParam_getSlot _ _ _ _ h).trans (writeParam_getSlot _ _ _ _ h)

theorem geoPoint_lost (h : s.store.point rp.index = none) : (geoPoint rp low s).store.slots = s.store.slots := by
  have lost (p : Param) (x : Limited) (t : State) (ht : t.store.point rp.index = none) :
      (writeParam rp.index p x t).store.point rp.index = none := by rw [writeParam_point]; simp [ht]
  have h1 := lost .gauge (gaugeOf s.run.settings rp) s h
  have h2 : ((writeParam rp.index .cant (cantOf s.run.settings rp)
      (writeParam rp.index .gauge (gaugeOf s.run.settings rp) s)).withCants (cantsAfter rp s)).store.point rp.index =
      none := lost _ _ _ h1
  rw [geoPoint_eq, writeParam_lost _ _ _ _ (lost _ _ _ h2), writeParam_lost _ _ _ _ h2]
  exact (writeParam_lost _ _ _ _ h1).trans (writeParam_lost _ _ _ _ h)

/-! ### TWIST (R74) -/

/-- The entry of a raw point stands last in the cant history after it. -/
theorem mem_cantsAfter :
    ⟨rp.index, (cantOf s.run.settings rp).value, (cantOf s.run.settings rp).status⟩ ∈ cantsAfter rp s := by
  unfold cantsAfter newest
  rw [List.drop_append_of_le_length (by simp [cantCapacity])]
  exact List.mem_append_right _ List.mem_cons_self

/-- In a cant history in index order, the entries after a raw point stay in index order. -/
theorem cantsAfter_pairwise (hlt : ∀ b ∈ s.geo.cants, b.index < rp.index)
    (h : s.geo.cants.Pairwise fun a b => a.index < b.index) :
    (cantsAfter rp s).Pairwise fun a b => a.index < b.index := by
  refine List.Pairwise.sublist (List.drop_sublist _ _) (List.pairwise_append.mpr
    ⟨h, List.pairwise_singleton _ _, fun a ha b hb => ?_⟩)
  rw [List.mem_singleton.mp hb]; exact hlt a ha

end

/-- In a list in order of an index, a search by the index of an entry finds that entry. -/
theorem find?_of_index {α : Type} {index : α → Nat} {l : List α} {b : α} {k : Nat}
    (h : l.Pairwise fun x y => index x < index y) (hb : b ∈ l) (hk : index b = k) :
    l.find? (fun e => decide (index e = k)) = some b := by
  induction l with
  | nil => cases hb
  | cons x l ih =>
    obtain ⟨hx, hl⟩ := List.pairwise_cons.mp h
    rcases List.mem_cons.mp hb with rfl | hb
    · simp [hk]
    · have hne : ¬index x = k := by have := hx b hb; omega
      simpa [hne] using ih hl hb

theorem twistOf_missing {twistBase k : Nat} {l : List CantEntry} (h : ∀ b ∈ l, b.index + twistBase ≠ k) :
    twistOf twistBase l k = ⟨0, .void, false⟩ := by
  have hb : (if k < twistBase then none else l.find? fun e => decide (e.index = k - twistBase)) = none := by
    split
    · rfl
    · next hk =>
      refine List.find?_eq_none.mpr fun b hb => ?_
      have := h b hb
      simp only [decide_eq_true_eq]; omega
  unfold twistOf; rw [hb]; split
  · next h => cases h
  · rfl

theorem twistOf_found {twistBase k : Nat} {l : List CantEntry} {a b : CantEntry}
    (h : l.Pairwise fun x y => x.index < y.index) (ha : a ∈ l) (hb : b ∈ l) (hak : a.index = k)
    (hbk : b.index + twistBase = k) :
    (twistOf twistBase l k).Gives (-32768) 32767 (a.value - b.value) (¬(a.status = .void ∨ b.status = .void))
      (worst [a.status, b.status]) := by
  have hk : ¬k < twistBase := by omega
  unfold twistOf
  rw [find?_of_index h ha hak, if_neg hk, find?_of_index h hb (by omega), ← join_eq_worst]
  refine limitParam_gives .twist _ _ ?_
  simp [join_eq_worst, worst_eq_void, eq_comm (a := Status.void)]

/-- A counter that rises under a condition, said for the condition and for its negation. -/
theorem counts_of_iff {m n : Nat} {P Q : Prop} [Decidable Q] (h : m = if Q then min 65535 (n + 1) else n)
    (hq : Q ↔ P) : (P → m = min 65535 (n + 1)) ∧ (¬P → m = n) :=
  ⟨fun k => h.trans (if_pos (hq.mpr k)), fun k => h.trans (if_neg fun q => k (hq.mp q))⟩

/-- Settles O23: the four parameters by their own lemmas, the slot and the counters by those on `geoPoint`, and TWIST by
the place of its two entries in the cant history. -/
theorem rawPointGivesItsParameters : Obligations.RawPointGivesItsParameters := by
  intro rp low s c gauge cant curv heads source left right inertial outside within t n counts
  have hg := gaugeOf_gives c rp
  have hc := cantOf_gives c rp
  have hk := curvOf_gives low rp
  have clamps := geoPoint_clamps rp low s
  refine ⟨(geoPoint_writes rp low s).eq, fun i h => geoPoint_getSlot rp low s h, geoPoint_lost rp low s,
    counts_of_iff (by simpa using clamps .gauge) hg.limited,
    counts_of_iff (by simpa using clamps .cant) (hc.limited.trans and_assoc),
    counts_of_iff (by simpa using clamps .curv) (hk.limited.trans and_assoc), ?_, fun x hx => ?_⟩
  · intro p hp
    have hne : p ≠ .gauge ∧ p ≠ .cant ∧ p ≠ .twist ∧ p ≠ .curv := by revert p; decide
    simpa [hne] using clamps p
  · refine ⟨_, (geoPoint_point rp low s).trans (congrArg (Option.map _) hx), rfl, ?_, fun h => ⟨hg.value h, hg.status h⟩,
      hg.void, fun h i => ⟨hc.value ⟨h, i⟩, hc.status ⟨h, i⟩⟩, fun h => hc.void fun k => h.elim (absurd k.1) k.2,
      fun h i => ⟨hk.value ⟨h, i⟩, hk.status ⟨h, i⟩⟩, fun h => hk.void fun k => ?_, geoPoint_cants rp low s,
      fun hbase hlt hord => ?_⟩
    · intro p hp
      fin_cases hp <;> exact ⟨rfl, rfl⟩
    · rcases h with h | h
      · rw [k.1] at h; cases h
      · exact k.2 h
    · have ht : t.geo.cants = cantsAfter rp s := geoPoint_cants rp low s
      have twists : t.geo.valueClamps.get .twist =
          if (twistOf c.twistBase (cantsAfter rp s) rp.index).limited = true
          then min 65535 (n.get .twist + 1) else n.get .twist := by simpa using clamps .twist
      rw [ht]
      refine ⟨fun hno => ?_, fun b hb hbk => ?_⟩
      · have hz := twistOf_missing hno
        refine ⟨congrArg Limited.value hz, congrArg Limited.status hz, counts_of_iff twists ?_⟩
        simp [hz]
      · have hw := twistOf_found (cantsAfter_pairwise rp s hlt hord) (mem_cantsAfter rp s) hb rfl hbk
        exact ⟨counts_of_iff twists hw.limited, fun h => hw.void (not_not_intro h),
          fun h => ⟨hw.value h, hw.status h⟩⟩

end Sys2Proof.Machine
end

section
/-!
PROOFS. Versines (R76 to R79), the handling of a raw point (R61, R81) and of the point that GRID forms (R39, R54).
-/

namespace Sys2Proof.Machine

/-! ### A versine (R76 to R78) -/

/-- The entry of a point in a chord history in index order. -/
theorem chordAt_of_mem {h : List ChordEntry} {e : ChordEntry} {k : Nat} (hp : h.Pairwise fun x y => x.index < y.index)
    (he : e ∈ h) (hk : e.index = k) : chordAt h k = some e := find?_of_index hp he hk

/-- In a chord history in index order, an entry is known by its index. -/
theorem chord_unique {h : List ChordEntry} {d e : ChordEntry} (hp : h.Pairwise fun x y => x.index < y.index)
    (hd : d ∈ h) (he : e ∈ h) (hi : d.index = e.index) : d = e :=
  Option.some.inj ((chordAt_of_mem hp hd hi).symm.trans (chordAt_of_mem hp he rfl))

/-- A versine of a chord that would begin before point 0 is VOID (R77). -/
theorem versineAt_before_zero (h : List ChordEntry) {j m : Nat} (v : VersineKind) (hj : j < m) :
    versineAt h j m v = { value := 0, status := .void, limited := false } := by
  simp [versineAt, hj]

/-- The entries of a chord after its first end (R76). -/
def chordInside (h : List ChordEntry) (first last : Nat) : List ChordEntry :=
  h.filter fun e => decide (first < e.index) && decide (e.index ≤ last)

/-- The conditions of R77 on a chord with its ends and centre. -/
def chordVoid (h : List ChordEntry) (v : VersineKind) (a b c : ChordEntry) : Bool :=
  a.lowSpeed || (chordInside h a.index c.index).any (fun e => e.lowSpeed || e.seam) ||
    [a, b, c].any (fun e => decide (v.head e = .void) || decide (e.inertial = .void))

/-- The status of a versine that is not VOID, before the limiting (R78). -/
def chordStatus (h : List ChordEntry) (v : VersineKind) (a b c : ChordEntry) : Status :=
  worst ([a, b, c].map v.head ++ [a, b, c].map (fun e => contribution e.inertial e.inertialClamp) ++
    (chordInside h a.index c.index).map (fun e => (v.mark e).status))

/-- The versine of a chord whose ends and centre the history holds. -/
theorem versineAt_eq {h : List ChordEntry} {j m : Nat} {a b c : ChordEntry} (v : VersineKind)
    (hp : h.Pairwise fun x y => x.index < y.index) (ha : a ∈ h) (hb : b ∈ h) (hc : c ∈ h)
    (haj : a.index + m = j) (hbj : b.index = j) (hcj : c.index = j + m) :
    versineAt h j m v = limitParam v.param (roundDiv (2 * v.curve b - v.curve a - v.curve c) 20000)
      (if chordVoid h v a b c then .void else chordStatus h v a b c) := by
  have hj : ¬j < m := by omega
  have hi : j - m = a.index := by omega
  unfold versineAt
  rw [if_neg hj, hi, chordAt_of_mem hp ha rfl, chordAt_of_mem hp hb hbj, ← hcj, chordAt_of_mem hp hc rfl]
  simp only [joinAll_eq_worst]
  rfl

/-- R77's conditions as the statement puts them: a LOWSPEED point on the chord, a seam after its first end, or a VOID
source at its ends or centre. -/
theorem chordVoid_iff {h : List ChordEntry} {v : VersineKind} {a b c : ChordEntry}
    (hp : h.Pairwise fun x y => x.index < y.index) (ha : a ∈ h) (hac : a.index ≤ c.index) :
    chordVoid h v a b c = true ↔
      (∃ e ∈ h, a.index ≤ e.index ∧ e.index ≤ c.index ∧ (e.lowSpeed = true ∨ (a.index < e.index ∧ e.seam = true))) ∨
      ∃ e ∈ [a, b, c], v.head e = .void ∨ e.inertial = .void := by
  simp only [chordVoid, chordInside, Bool.or_eq_true, List.any_eq_true, List.mem_filter, Bool.and_eq_true,
    decide_eq_true_eq]
  refine or_congr ⟨?_, ?_⟩ Iff.rfl
  · rintro (hl | ⟨e, ⟨he, h1, h2⟩, hl | hs⟩)
    · exact ⟨a, ha, Nat.le_refl _, hac, .inl hl⟩
    · exact ⟨e, he, h1.le, h2, .inl hl⟩
    · exact ⟨e, he, h1.le, h2, .inr ⟨h1, hs⟩⟩
  · rintro ⟨e, he, h1, h2, hl | ⟨h3, hs⟩⟩
    · rcases Nat.eq_or_lt_of_le h1 with heq | hlt
      · exact .inl (chord_unique hp ha he heq ▸ hl)
      · exact .inr ⟨e, ⟨he, hlt, h2⟩, .inl hl⟩
    · exact .inr ⟨e, ⟨he, h3, h2⟩, .inr hs⟩

/-- A versine that R77 does not make VOID has a status other than VOID, and INERTIAL contributes as R80 says. -/
theorem chordStatus_of_not_void {h : List ChordEntry} {v : VersineKind} {a b c : ChordEntry}
    (hv : ∀ e ∈ [a, b, c], v.head e ≠ .void ∧ e.inertial ≠ .void) :
    chordStatus h v a b c ≠ .void ∧
    chordStatus h v a b c = worst ([a, b, c].map v.head ++
      [a, b, c].map (fun e => if e.inertialClamp then .clamped else e.inertial) ++
      (chordInside h a.index c.index).map (fun e => (v.mark e).status)) := by
  have mark (m : IntegMark) : m.status ≠ .void := by cases m <;> decide
  constructor
  · simp only [chordStatus, ne_eq, worst_eq_void, List.mem_append, List.mem_map, not_or, not_exists, not_and]
    exact ⟨⟨fun e he => (hv e he).1, fun e he k => (hv e he).2 (contribution_eq_void.mp k)⟩, fun e _ => mark _⟩
  · have hc : [a, b, c].map (fun e => contribution e.inertial e.inertialClamp) =
        [a, b, c].map (fun e => if e.inertialClamp then .clamped else e.inertial) :=
      List.map_congr_left fun e he => if_neg (hv e he).2
    rw [chordStatus, hc]

/-! ### The versines of a raw point (R61, R76, R79) -/

/-- A point with the values and statuses of two versines, where it stands at their centre. -/
def PointRec.withVersines (x : PointRec) (centre : Bool) (v w : VersineKind) (a b : Limited) : PointRec :=
  if centre then
    { x with values := (x.values.set v.param a.value).set w.param b.value,
             statuses := (x.statuses.set v.param a.status).set w.param b.status }
  else x

section

variable (x : PointRec) (centre : Bool) (v w : VersineKind) (a b : Limited)

theorem PointRec.withVersines_values (q : Param) :
    (x.withVersines centre v w a b).values.get q =
      if centre = true ∧ q = w.param then b.value
      else if centre = true ∧ q = v.param then a.value else x.values.get q := by
  cases centre <;> simp [PointRec.withVersines, PerParam.get_set_ite]

theorem PointRec.withVersines_statuses (q : Param) :
    (x.withVersines centre v w a b).statuses.get q =
      if centre = true ∧ q = w.param then b.status
      else if centre = true ∧ q = v.param then a.status else x.statuses.get q := by
  cases centre <;> simp [PointRec.withVersines, PerParam.get_set_ite]

end

section

variable (v w : VersineKind) (k m : Nat) (s : State)

/-- Two versines of one half-chord are two writes at their centre, from one chord history. -/
theorem writeVersines_pair :
    writeVersines [v, w] k m s = if k < m then s else
      writeParam (k - m) w.param (versineAt s.geo.chord (k - m) m w)
        (writeParam (k - m) v.param (versineAt s.geo.chord (k - m) m v) s) := rfl

theorem writeVersines_writes : WritesParams s (writeVersines [v, w] k m s) := by
  rw [writeVersines_pair]
  split
  · exact WritesParams.refl s
  · exact (writeParam_writes _ _ _ s).trans (writeParam_writes _ _ _ _)

@[simp] theorem writeVersines_cants : (writeVersines [v, w] k m s).geo.cants = s.geo.cants := by
  rw [writeVersines_pair]
  split
  · rfl
  · rw [writeParam_cants, writeParam_cants]

@[simp] theorem writeVersines_chord : (writeVersines [v, w] k m s).geo.chord = s.geo.chord := by
  rw [(writeVersines_writes v w k m s).eq]

/-- Every point is as it was but the centre of the two versines, which holds both. -/
theorem writeVersines_point (j : Nat) :
    (writeVersines [v, w] k m s).store.point j = (s.store.point j).map fun x =>
      x.withVersines (decide (j + m = k)) v w (versineAt s.geo.chord j m v) (versineAt s.geo.chord j m w) := by
  rw [writeVersines_pair]
  split
  · next hk =>
    have hj : ¬j + m = k := by omega
    simp [PointRec.withVersines, hj]
  · next hk =>
    rw [writeParam_point, writeParam_point, if_pos rfl]
    by_cases hj : j + m = k
    · obtain rfl : j = k - m := by omega
      rw [if_pos rfl, decide_eq_true hj]
      cases s.store.point (k - m) <;> rfl
    · have hne : ¬j = k - m := by omega
      rw [if_neg hne, writeParam_point, if_neg hne, decide_eq_false hj]
      cases s.store.point j <;> rfl

/-- Each of two versines is counted where it was limited. -/
theorem writeVersines_clamps (hvw : v.param ≠ w.param) (q : Param) :
    (writeVersines [v, w] k m s).geo.valueClamps.get q =
      if m ≤ k ∧ ((q = v.param ∧ (versineAt s.geo.chord (k - m) m v).limited = true) ∨
          (q = w.param ∧ (versineAt s.geo.chord (k - m) m w).limited = true))
      then min 65535 (s.geo.valueClamps.get q + 1) else s.geo.valueClamps.get q := by
  rw [writeVersines_pair]
  split
  · next hk => simp [Nat.not_le.mpr hk]
  · next hk =>
    rw [writeParam_clamps, writeParam_clamps]
    by_cases hq : q = w.param
    · subst hq; simp [Nat.le_of_not_lt hk, hvw.symm]
    · simp [Nat.le_of_not_lt hk, hq]

end

/-- Point `j` after the four versines of raw point `k`, from a chord history. -/
def PointRec.atRawPoint (x : PointRec) (k : Nat) (c : Settings) (h : List ChordEntry) (j : Nat) : PointRec :=
  (x.withVersines (decide (j + c.levelHalf = k)) ⟨.levelL, true, true⟩ ⟨.levelR, false, true⟩
    (versineAt h j c.levelHalf ⟨.levelL, true, true⟩)
    (versineAt h j c.levelHalf ⟨.levelR, false, true⟩)).withVersines
  (decide (j + c.alignHalf = k)) ⟨.alignL, true, false⟩ ⟨.alignR, false, false⟩
    (versineAt h j c.alignHalf ⟨.alignL, true, false⟩)
    (versineAt h j c.alignHalf ⟨.alignR, false, false⟩)

theorem PointRec.atRawPoint_frame (x : PointRec) (k : Nat) (c : Settings) (h : List ChordEntry) (j : Nat) :
    x.atRawPoint k c h j = { x with
      values := (x.atRawPoint k c h j).values, statuses := (x.atRawPoint k c h j).statuses } := by
  unfold PointRec.atRawPoint
  cases decide (j + c.levelHalf = k) <;> cases decide (j + c.alignHalf = k) <;> rfl

/-- The part after the four versines of a raw point, before a point is completed (R61). -/
def withVersinesOf (rp : RawPoint) (c : Settings) (a : State) : State :=
  writeVersines alignKinds rp.index c.alignHalf (writeVersines levelKinds rp.index c.levelHalf a)

/-! ### The point that GRID forms (R39, R40) -/

/-- Entries all later than a time leave it without a lower bracket. -/
theorem trimQueue_of_later {α : Type} {q : List (Entry α)} {t : Nat} (h : ∀ e ∈ q, t < e.stamp) :
    trimQueue q t = q := by
  have hf : q.filter (fun e => decide (e.stamp ≤ t)) = [] :=
    List.filter_eq_nil_iff.mpr fun e he => by simpa using h e he
  simp [trimQueue, lowerBracket, hf]

/-- A queue in stamp order keeps its lower bracket and what is later (R39). -/
theorem trimQueue_at_bracket {α : Type} {front back : List (Entry α)} {a : Entry α} {t : Nat}
    (h : (front ++ a :: back).Pairwise fun x y => x.stamp < y.stamp) (ha : a.stamp ≤ t)
    (hb : ∀ e ∈ back, t < e.stamp) : trimQueue (front ++ a :: back) t = a :: back := by
  obtain ⟨-, hback, hfront⟩ := List.pairwise_append.mp h
  have hnone : back.filter (fun e => decide (e.stamp ≤ t)) = [] :=
    List.filter_eq_nil_iff.mpr fun e he => by simpa using hb e he
  have hlower : lowerBracket (front ++ a :: back) t = some a := by
    simp [lowerBracket, ha, hnone]
  have hearly : front.filter (fun e => decide (a.stamp ≤ e.stamp)) = [] :=
    List.filter_eq_nil_iff.mpr fun e he => by simpa using hfront e he a List.mem_cons_self
  have hlate : back.filter (fun e => decide (a.stamp ≤ e.stamp)) = back :=
    List.filter_eq_self.mpr fun e he => by simpa using ha.trans (hb e he).le
  simp [trimQueue, hlower, hearly, hlate]

theorem trimQueue_trimmedAt {α : Type} (q : List (Entry α)) (t : Nat)
    (h : q.Pairwise fun a b => a.stamp < b.stamp) : TrimmedAt q (trimQueue q t) t :=
  ⟨trimQueue_of_later, fun front a back hq ha hb => by subst hq; exact trimQueue_at_bracket h ha hb⟩

/-! ### The statement -/

/-- The versine part of O24 for a chord that the history holds: R77's conditions, the value and the status. -/
theorem versineAt_gives {h : List ChordEntry} {j m : Nat} {a b c : ChordEntry} {v : VersineKind}
    (hv : v ∈ levelKinds ++ alignKinds) (hp : h.Pairwise fun x y => x.index < y.index) (ha : a ∈ h) (hb : b ∈ h)
    (hc : c ∈ h) (haj : a.index + m = j) (hbj : b.index = j) (hcj : c.index = j + m) :
    (versineAt h j m v).Gives (-32768) 32767 (roundDiv (2 * v.curve b - v.curve a - v.curve c) 20000)
      (¬((∃ e ∈ h, a.index ≤ e.index ∧ e.index ≤ c.index ∧
          (e.lowSpeed = true ∨ (a.index < e.index ∧ e.seam = true))) ∨
        ∃ e ∈ [a, b, c], v.head e = .void ∨ e.inertial = .void))
      (chordStatus h v a b c) := by
  have hrange : v.param.range = (-32768, 32767) := by
    simp only [levelKinds, alignKinds, List.cons_append, List.nil_append, List.mem_cons, List.not_mem_nil,
      or_false] at hv
    rcases hv with rfl | rfl | rfl | rfl <;> rfl
  have hiff := chordVoid_iff (v := v) (b := b) (c := c) hp ha (by omega)
  rw [versineAt_eq v hp ha hb hc haj hbj hcj, ← hiff]
  have g := limitParam_gives v.param (roundDiv (2 * v.curve b - v.curve a - v.curve c) 20000)
    (if chordVoid h v a b c then .void else chordStatus h v a b c) (valid := ¬chordVoid h v a b c = true) (by
      cases hcv : chordVoid h v a b c
      · refine iff_of_true ?_ (by decide)
        refine (chordStatus_of_not_void fun e he => ?_).1
        refine ⟨fun k => ?_, fun k => ?_⟩
        · exact Bool.false_ne_true (hcv.symm.trans (hiff.mpr (.inr ⟨e, he, .inl k⟩)))
        · exact Bool.false_ne_true (hcv.symm.trans (hiff.mpr (.inr ⟨e, he, .inr k⟩)))
      · exact iff_of_false (fun k => k rfl) (fun k => k rfl))
  rw [hrange] at g
  exact ⟨g.value, fun k => (g.status k).trans (by rw [if_neg k]), g.void, g.limited⟩

theorem VersineKind.curve_eq (v : VersineKind) (e : ChordEntry) :
    v.curve e = if v.vertical then (if v.left then e.zL else e.zR) else (if v.left then e.yL else e.yR) := by
  unfold VersineKind.curve
  cases v.vertical <;> cases v.left <;> rfl

theorem isLowSpeed_eq (vMin : Nat) (low : LowSpeed) (speed : Nat) :
    isLowSpeed vMin low speed = match low with
      | .outside => decide (speed < vMin)
      | .inside => decide (speed < vMin + vMin / 8) := by
  cases low <;> rfl

section

variable (rp : RawPoint) (c : Settings) (a : State)

theorem withVersinesOf_eq :
    withVersinesOf rp c a = { a with
      geo := { a.geo with valueClamps := (withVersinesOf rp c a).geo.valueClamps },
      store := { a.store with slots := (withVersinesOf rp c a).store.slots } } := by
  have hcants : (withVersinesOf rp c a).geo.cants = a.geo.cants :=
    (writeVersines_cants _ _ _ _ _).trans (writeVersines_cants _ _ _ _ _)
  have h := ((writeVersines_writes _ _ rp.index c.levelHalf a).trans
    (writeVersines_writes _ _ rp.index c.alignHalf _) : WritesParams a (withVersinesOf rp c a)).eq
  rwa [hcants] at h

/-- Every point is as it was but the two centres, each of which holds its two versines. -/
theorem withVersinesOf_point (j : Nat) :
    (withVersinesOf rp c a).store.point j =
      (a.store.point j).map fun x => x.atRawPoint rp.index c a.geo.chord j := by
  unfold withVersinesOf levelKinds alignKinds
  rw [writeVersines_point, writeVersines_point, writeVersines_chord, Option.map_map]
  rfl

/-- Each versine of a raw point is counted where it was limited. -/
theorem withVersinesOf_clamps (q : Param) :
    (withVersinesOf rp c a).geo.valueClamps.get q =
      if (c.levelHalf ≤ rp.index ∧
            ((q = .levelL ∧
                (versineAt a.geo.chord (rp.index - c.levelHalf) c.levelHalf ⟨.levelL, true, true⟩).limited = true) ∨
              (q = .levelR ∧
                (versineAt a.geo.chord (rp.index - c.levelHalf) c.levelHalf ⟨.levelR, false, true⟩).limited = true))) ∨
          (c.alignHalf ≤ rp.index ∧
            ((q = .alignL ∧
                (versineAt a.geo.chord (rp.index - c.alignHalf) c.alignHalf ⟨.alignL, true, false⟩).limited = true) ∨
              (q = .alignR ∧
                (versineAt a.geo.chord (rp.index - c.alignHalf) c.alignHalf ⟨.alignR, false, false⟩).limited = true)))
      then min 65535 (a.geo.valueClamps.get q + 1) else a.geo.valueClamps.get q := by
  unfold withVersinesOf levelKinds alignKinds
  rw [writeVersines_clamps _ _ _ _ _ (by decide), writeVersines_clamps _ _ _ _ _ (by decide), writeVersines_chord]
  cases q <;> simp

end

/-- R61's whole handling: classification, parameters, versines, and the completion of the point m_max before. -/
theorem geoRawPoint_eq (rp : RawPoint) (s : State) :
    geoRawPoint rp s =
      let u := withVersinesOf rp s.run.settings
        (geoPoint rp (isLowSpeed s.run.settings.vMin s.geo.low rp.speed) (geoClassify rp s))
      if rp.index < s.run.settings.mMax then u else completePoint (rp.index - s.run.settings.mMax) u := rfl

/-- Settles O24: the versine by the chord's three entries, the raw point by the writes of its four versines, and the point
that GRID forms by its definition, with the trimmed queues by their lower brackets. -/
theorem versinesFollowTheChord : Obligations.VersinesFollowTheChord := by
  refine ⟨?_, fun h j m v => versineAt_before_zero h v, ?_, ?_⟩
  · intro h j m v a b c hv _ hp ha hb hc haj hbj hcj head curve inertial mark isVoid n r
    have g := versineAt_gives hv hp ha hb hc haj hbj hcj
    have hn : roundDiv (2 * v.curve b - v.curve a - v.curve c) 20000 = n := by simp only [VersineKind.curve_eq]; rfl
    rw [hn] at g
    refine ⟨fun hvoid => ?_, fun hnot => ?_⟩
    · obtain ⟨h0, hs⟩ := g.void (not_not_intro hvoid)
      have hl : r.limited = false := Bool.eq_false_iff.mpr fun k => (g.limited.mp k).1 hvoid
      exact (congr (congr (congrArg Limited.mk h0) hs) hl :)
    · obtain ⟨hne, heq⟩ := chordStatus_of_not_void (h := h) (v := v) (a := a) (b := b) (c := c) fun e he =>
        ⟨fun k => hnot (.inr ⟨e, he, .inl k⟩), fun k => hnot (.inr ⟨e, he, .inr k⟩)⟩
      have hs := g.status hnot
      refine ⟨g.value hnot, ?_, g.limited.trans (and_iff_right hnot), ?_⟩
      · rw [hs]; split
        · decide
        · exact hne
      · rw [hs, heq]
        simp only [chordInside, ← Bool.decide_and]
        rfl
  · intro rp s c k low versines mMax a
    have hlow : isLowSpeed c.vMin s.geo.low rp.speed = low := isLowSpeed_eq _ _ _
    refine ⟨withVersinesOf rp c a, ?_, withVersinesOf_eq rp c a, fun j hj => ?_, fun j x hx => ?_, ?_, ?_⟩
    · rw [geoRawPoint_eq, hlow]; rfl
    · rw [withVersinesOf_point, hj]; rfl
    · refine ⟨_, (withVersinesOf_point rp c a j).trans (congrArg (Option.map _) hx), ?_, ?_, ?_⟩
      · exact x.atRawPoint_frame k c a.geo.chord j
      · intro p m v hpv
        simp only [versines, List.mem_cons, Prod.mk.injEq, List.not_mem_nil, or_false] at hpv
        rcases hpv with ⟨rfl, rfl, rfl⟩ | ⟨rfl, rfl, rfl⟩ | ⟨rfl, rfl, rfl⟩ | ⟨rfl, rfl, rfl⟩ <;>
          simp [PointRec.atRawPoint, PointRec.withVersines_values, PointRec.withVersines_statuses, k]
      · intro p hp
        have hne : p ≠ .levelL ∧ p ≠ .levelR ∧ p ≠ .alignL ∧ p ≠ .alignR := by revert p; decide
        simp [PointRec.atRawPoint, PointRec.withVersines_values, PointRec.withVersines_statuses, hne]
    · intro p m v hpv
      simp only [versines, List.mem_cons, Prod.mk.injEq, List.not_mem_nil, or_false] at hpv
      rcases hpv with ⟨rfl, rfl, rfl⟩ | ⟨rfl, rfl, rfl⟩ | ⟨rfl, rfl, rfl⟩ | ⟨rfl, rfl, rfl⟩ <;>
        simp [withVersinesOf_clamps, k]
    · intro p hp
      have hne : p ≠ .levelL ∧ p ≠ .levelR ∧ p ≠ .alignL ∧ p ≠ .alignR := by revert p; decide
      simp [withVersinesOf_clamps, hne]
  · intro c rest s trimmed
    exact ⟨_, rfl, rfl, trimQueue_trimmedAt _ _, trimQueue_trimmedAt _ _, trimQueue_trimmedAt _ _⟩

end Sys2Proof.Machine
end

section
/-!
PROOFS. What happens from STORE, EXM and GEO on leaves the blocks before them alone, and when an examination leaves no
alignment deadline reached (R44, R46).
-/

namespace Sys2Proof.Machine

/-! ### STORE, EXM and GEO leave the blocks before them alone -/

/-- All of the part but STORE, GEO, EXM, CLS and the ports. -/
def State.upstream (s : State) := (s.now, s.odo, s.intake, s.grid, s.pos, s.run, s.svc, s.freeCount, s.pending)

/-- A fold of events that each leave the blocks upstream alone. -/
theorem foldl_upstream {α : Type} {f : State → α → State} (h : ∀ s x, (f s x).upstream = s.upstream) (l : List α)
    (s : State) : (l.foldl f s).upstream = s.upstream := by
  induction l generalizing s with
  | nil => rfl
  | cons x l ih => exact (ih _).trans (h s x)

theorem endStream_upstream (p : PortId) (why : StreamEnd) (s : State) :
    (endStream p why s).upstream = s.upstream := by
  unfold endStream; split <;> rfl

theorem runOverTest_upstream (p : PortId) (s : State) : (runOverTest p s).upstream = s.upstream := by
  unfold runOverTest; split
  · split
    · exact endStream_upstream _ _ _
    · rfl
  · rfl

theorem buildPoints_upstream (n : Nat) (p : PortId) (s : State) : (buildPoints n p s).upstream = s.upstream := by
  have built (t : State) : (afterPoints p t).upstream = t.upstream := by
    unfold afterPoints; split
    · split
      · exact endStream_upstream _ _ _
      · exact runOverTest_upstream _ _
    · rfl
  induction n generalizing s with
  | zero => rfl
  | succ n ih =>
    unfold buildPoints; split
    · dsimp only; split
      · rfl
      · exact (ih _).trans ((built _).trans rfl)
    · rfl

theorem streamBuild_upstream (p : PortId) (s : State) : (streamBuild p s).upstream = s.upstream :=
  buildPoints_upstream _ p s

theorem gapTest_upstream (p : PortId) (s : State) : (gapTest p s).upstream = s.upstream := by
  unfold gapTest; split
  · split
    · split
      · split
        · exact endStream_upstream _ _ _
        · exact streamBuild_upstream _ _
      · exact streamBuild_upstream _ _
    · rfl
  · rfl

theorem openSlot_upstream (x : PointRec) (s : State) : (openSlot x s).upstream = s.upstream :=
  foldl_upstream (fun t p => gapTest_upstream p t) _ _

theorem closeRecord_upstream (p : Param) (why : CloseReason) (i : Nat) (c : Int) (s : State) :
    (closeRecord p why i c s).upstream = s.upstream := by
  unfold closeRecord; dsimp only; split
  · rfl
  · split <;> rfl

theorem closeAtLast_upstream (p : Param) (why : CloseReason) (s : State) :
    (closeAtLast p why s).upstream = s.upstream := by
  unfold closeAtLast; split
  · exact closeRecord_upstream _ _ _ _ _
  · rfl

theorem openRecord_upstream (p : Param) (l : Nat) (d : Side) (v : Int) (at' : PointPlace) (s : State) :
    (openRecord p l d v at' s).upstream = s.upstream := by
  unfold openRecord; dsimp only; split
  · rfl
  · split <;> rfl

theorem extendRecord_upstream (p : Param) (o : OpenGroup) (l : Nat) (v : Int) (at' : PointPlace) (s : State) :
    (extendRecord p o l v at' s).upstream = s.upstream := by
  unfold extendRecord; dsimp only; split
  · rfl
  · split
    · refine (closeRecord_upstream p _ _ _ _).trans ?_; split <;> rfl
    · split <;> rfl

theorem applyOutcome_upstream (p : Param) (o : ParamOutcome) (v : Int) (at' : PointPlace) (s : State) :
    (applyOutcome p o v at' s).upstream = s.upstream := by
  unfold applyOutcome; split
  · exact closeAtLast_upstream _ _ _
  · exact closeAtLast_upstream _ _ _
  · unfold bridge; dsimp only; split
    · rfl
    · split
      · exact (closeAtLast_upstream _ _ _).trans rfl
      · rfl
  · split
    · exact openRecord_upstream _ _ _ _ _ _
    · split
      · exact extendRecord_upstream _ _ _ _ _ _
      · exact (openRecord_upstream _ _ _ _ _ _).trans (closeAtLast_upstream _ _ _)

theorem exm_upstream (s : State) (e : Exm) : ({ s with exm := e } : State).upstream = s.upstream := rfl

theorem store_upstream (s : State) (x : Store) : ({ s with store := x } : State).upstream = s.upstream := rfl

theorem writePoint_upstream (k : Nat) (f : PointRec → PointRec) (s : State) :
    (writePoint k f s).upstream = s.upstream := rfl

theorem judgeHeld_upstream (x : PointRec) (s : State) : (judgeHeld x s).upstream = s.upstream := by
  unfold judgeHeld; dsimp only
  exact (exm_upstream _ _).trans ((writePoint_upstream _ _ _).trans
    (foldl_upstream (fun t p => applyOutcome_upstream p _ _ _ t) _ _))

theorem judgeLost_upstream (s : State) : (judgeLost s).upstream = s.upstream := by
  unfold judgeLost; dsimp only
  exact (exm_upstream _ _).trans (foldl_upstream (fun t p => closeAtLast_upstream p _ t) _ _)

theorem completePoint_upstream (j : Nat) (s : State) : (completePoint j s).upstream = s.upstream := by
  unfold completePoint; dsimp only
  refine (foldl_upstream (fun t p => streamBuild_upstream p t) _ _).trans ?_
  split
  · exact (store_upstream _ _).trans ((writePoint_upstream _ _ _).trans (judgeHeld_upstream _ s))
  · exact (store_upstream _ _).trans ((judgeLost_upstream _).trans (store_upstream s _))

theorem WritesParams.upstream {s t : State} (h : WritesParams s t) : t.upstream = s.upstream := by
  obtain ⟨_, _, _, rfl⟩ := h; rfl

theorem geoRawPoint_upstream (rp : RawPoint) (s : State) : (geoRawPoint rp s).upstream = s.upstream := by
  have h : (withVersinesOf rp s.run.settings
      (geoPoint rp (isLowSpeed s.run.settings.vMin s.geo.low rp.speed) (geoClassify rp s))).upstream = s.upstream :=
    ((writeVersines_writes _ _ _ _ _).upstream.trans (writeVersines_writes _ _ _ _ _).upstream).trans
      (geoPoint_writes rp _ (geoClassify rp s)).upstream
  rw [geoRawPoint_eq]; dsimp only
  split
  · exact h
  · exact (completePoint_upstream _ _).trans h

end Sys2Proof.Machine
end

section
/-!
PROOFS. What an examination leaves of the awaited point (R44, R46), and what a validated edge leaves alone besides what
`Keeps` says: the lines, SPACING's level, the sources and the run state.
-/

namespace Sys2Proof.Machine

/-! ### Examination (R44, R46) -/

theorem deadlineReached_iff {s : State} : deadlineReached s = true ↔ ∃ d, s.grid.deadline = some d ∧ d ≤ s.now := by
  unfold deadlineReached
  cases s.grid.deadline <;> simp

/-- A point formed hands the wait to the next, and leaves the run as it is. -/
theorem formPoint_wait (c : CreatedPoint) (rest : List CreatedPoint) (s : State) :
    (formPoint c rest s).grid.waiting = rest ∧
      (formPoint c rest s).grid.deadline = deadlineOf s.run.settings.alignWaitUs rest ∧
      (formPoint c rest s).run = s.run := by
  have h := geoRawPoint_upstream (rawPointOf c s)
    { s with
      grid := { s.grid.counted c (rawPointOf c s) s with
        waiting := rest, deadline := deadlineOf s.run.settings.alignWaitUs rest },
      store := { s.store with f := some c.index },
      intake := { s.intake with
        queueL := trimQueue s.intake.queueL c.crossing, queueR := trimQueue s.intake.queueR c.crossing,
        queueI := trimQueue s.intake.queueI c.crossing, refTime := some c.crossing } }
  simp only [State.upstream, Prod.mk.injEq] at h
  obtain ⟨-, -, -, hgrid, -, hrun, -, -, -⟩ := h
  exact ⟨congrArg Grid.waiting hgrid, congrArg Grid.deadline hgrid, hrun⟩

theorem formWhile_run (n : Nat) (s : State) : (formWhile n s).run = s.run := by
  induction n generalizing s with
  | zero => rfl
  | succ n ih =>
    unfold formWhile; split
    · split
      · exact (ih _).trans (formPoint_wait _ _ s).2.2
      · rfl
    · rfl

/-- All sources are satisfied once the alignment deadline is reached (R44). -/
theorem satisfied_of_reached {s : State} (h : deadlineReached s = true) (t : Nat) : (satisfied s t).all = true := by
  simp [satisfied, PerQueued.all, h]

/-- Forming ends with no deadline reached: a point whose deadline is reached is formed (R44, R46). -/
theorem formWhile_not_reached {n : Nat} {s : State} (hn : s.grid.waiting.length ≤ n)
    (h : s.grid.waiting = [] → deadlineReached s = false) : deadlineReached (formWhile n s) = false := by
  induction n generalizing s with
  | zero => exact h (List.length_eq_zero_iff.mp (Nat.le_zero.mp hn))
  | succ n ih =>
    unfold formWhile
    split
    · next c rest hw =>
      split
      · obtain ⟨hwait, hdeadline, -⟩ := formPoint_wait c rest s
        refine ih ?_ fun hnil => ?_
        · rw [hwait]; rw [hw, List.length_cons] at hn; omega
        · rw [hwait] at hnil
          have hnone : (formPoint c rest s).grid.deadline = none := hdeadline.trans (by rw [hnil]; rfl)
          simp [deadlineReached, hnone]
      · next hs =>
        exact Bool.eq_false_iff.mpr fun k => hs (satisfied_of_reached k _)
    · next hw => exact h hw

/-- The run that becomes IDLE awaits no point (R57). -/
theorem becomeIdle_deadline (s : State) : (becomeIdle s).grid.deadline = none := by
  have answered (t : State) : (answerEndRun t).grid = t.grid := by unfold answerEndRun; split <;> rfl
  unfold becomeIdle; dsimp only
  have h := foldl_upstream (fun t p => runOverTest_upstream p t) PortId.all
    { s with
      run := { s.run with state := .idle }, odo := { s.odo with window := none },
      grid := { s.grid with waiting := [], deadline := none }, intake := { s.intake with refTime := none } }
  simp only [State.upstream, Prod.mk.injEq] at h
  obtain ⟨-, -, -, hgrid, -⟩ := h
  exact (congrArg Grid.deadline (answered _)).trans (congrArg Grid.deadline hgrid)

/-- An examination leaves no alignment deadline reached, unless one was reached with no point to form. -/
theorem examine_not_reached {s : State} (h : s.run.state = .idle ∨ s.grid.waiting = [] → deadlineReached s = false) :
    deadlineReached (examine s) = false := by
  unfold examine
  split
  · next hidle => exact h (.inl hidle)
  · have k := formWhile_not_reached (Nat.le_refl _) fun hw => h (.inr hw)
    unfold finishTest
    split
    · have hnone : (finishRun (formWhile s.grid.waiting.length s)).grid.deadline = none := becomeIdle_deadline _
      simp [deadlineReached, hnone]
    · exact k

/-- In RUNNING an examination ends no run. -/
theorem examine_running {s : State} (h : s.run.state = .running) : (examine s).run = s.run := by
  have hf := formWhile_run s.grid.waiting.length s
  have hn : ¬((formWhile s.grid.waiting.length s).run.state = .finishing .forming ∧
      (formWhile s.grid.waiting.length s).grid.waiting = []) := by
    rw [hf, h]; exact fun k => RunState.noConfusion k.1
  unfold examine finishTest
  rw [if_neg (by rw [h]; decide), if_neg hn, hf]

/-! ### Validated edges and pulses -/

/-- What a pulse leaves alone, besides what `Keeps` says; and it leaves no alignment deadline newly reached. -/
structure Pulsed (s t : State) : Prop where
  keeps : Keeps s t
  lines : t.odo.lines = s.odo.lines
  high : t.odo.spacingHigh = s.odo.spacingHigh
  since : t.odo.spacingSince = s.odo.spacingSince
  units : t.intake.units = s.intake.units
  state : t.run.state = s.run.state
  align : deadlineReached s = false → deadlineReached t = false

variable {s t u : State}

theorem Pulsed.refl (s : State) : Pulsed s s := ⟨Keeps.refl s, rfl, rfl, rfl, rfl, rfl, id⟩

theorem Pulsed.trans (h : Pulsed s t) (k : Pulsed t u) : Pulsed s u :=
  ⟨h.1.trans k.1, k.2.trans h.2, k.3.trans h.3, k.4.trans h.4, k.5.trans h.5, k.6.trans h.6, k.7 ∘ h.7⟩

/-- `Pulsed.trans` with the later event first, which the goal names. -/
theorem Pulsed.after (k : Pulsed t u) (h : Pulsed s t) : Pulsed s u := h.trans k

theorem Pulsed.ite {c : Prop} [Decidable c] (ht : Pulsed s t) (hu : Pulsed s u) : Pulsed s (if c then t else u) := by
  split <;> assumption

/-- A change of ODO that leaves its direction, its lines and SPACING's level. -/
theorem odo_pulsed (s : State) (o : Odo) (hd : o.direction = s.odo.direction) (hl : o.lines = s.odo.lines)
    (hh : o.spacingHigh = s.odo.spacingHigh) (hs : o.spacingSince = s.odo.spacingSince) :
    Pulsed s { s with odo := o } :=
  ⟨odo_keeps s o hd, hl, hh, hs, rfl, rfl, id⟩

theorem offerAll_pulsed (sel : Port → Bool) (c : NoticeClass) (w : List Word) (s : State) :
    Pulsed s (offerAll sel c w s) := ⟨(offerAll_calm sel c w s).keeps, rfl, rfl, rfl, rfl, rfl, id⟩

/-- A calm event leaves the lines and SPACING as they are. -/
theorem Calm.odo_fields (h : Calm s t) :
    t.odo.lines = s.odo.lines ∧ t.odo.spacingHigh = s.odo.spacingHigh ∧ t.odo.spacingSince = s.odo.spacingSince ∧
      t.odo.spacingOwed = s.odo.spacingOwed := by
  have k := h.odo
  simp only [Odo.mk.injEq] at k
  simp only [k, and_self]

theorem openSlot_pulsed (x : PointRec) (s : State) : Pulsed s (openSlot x s) := by
  have h := openSlot_upstream x s
  have k := (openSlot_calm x s).keeps
  simp only [State.upstream, Prod.mk.injEq] at h
  obtain ⟨hnow, hodo, hintake, hgrid, -, hrun, -, -, -⟩ := h
  refine ⟨k, by rw [hodo], by rw [hodo], by rw [hodo], by rw [hintake], by rw [hrun], fun hr => ?_⟩
  simpa [deadlineReached, hgrid, hnow] using hr

/-- A created point waits, or is examined at once; either way no deadline is newly reached (R43, R45, R46). -/
theorem awaitPoint_pulsed (c : CreatedPoint) (h : s.run.state = .running) : Pulsed s (awaitPoint c s) := by
  have k := awaitPoint_calm c s
  obtain ⟨hl, hh, hs, -⟩ := k.odo_fields
  refine ⟨k.keeps, hl, hh, hs, k.units, ?_, fun hr => ?_⟩
  · unfold awaitPoint; split
    · rw [examine_running (by exact h)]
    · rfl
  · unfold awaitPoint; split
    · refine examine_not_reached fun hx => ?_
      rcases hx with hx | hx
      · rw [show s.run.state = .idle from hx] at h; cases h
      · cases hx
    · exact hr

theorem createPoint_pulsed (k crossing speed : Nat) (h : s.run.state = .running) :
    Pulsed s (createPoint k crossing speed s) := by
  unfold createPoint; dsimp only
  generalize h1 : openSlot _ _ = s1
  have k1 : Pulsed s s1 := by
    subst h1
    refine (openSlot_pulsed _ _).after ⟨?_, rfl, rfl, rfl, rfl, rfl, id⟩
    exact front_keeps s _ s.intake _ rfl rfl rfl rfl
  exact k1.trans (awaitPoint_pulsed _ (k1.state.trans h))

theorem createPoints_pulsed (f : Nat → Nat) (n k : Nat) (h : s.run.state = .running) :
    Pulsed s (createPoints f n k s) := by
  induction n generalizing k s with
  | zero => exact .refl s
  | succ n ih =>
    have k1 := createPoint_pulsed k (f k) (speedAfter (f k - s.odo.lastCrossing) s.odo.lastSpeed) h
    exact k1.trans (ih (k + 1) (k1.state.trans h))

theorem backtrackTest_pulsed (sPrev : Int) (s : State) : Pulsed s (backtrackTest sPrev s) := by
  unfold backtrackTest; dsimp only
  refine .ite (.ite ?_ (.refl s)) (.ite ?_ (.refl s))
  all_goals
    refine (offerAll_pulsed _ _ _ _).after ?_
    exact odo_pulsed s _ rfl rfl rfl rfl

theorem sEvent_pulsed (corr : Bool) (stamp : Nat) (step : Int) (s : State) : Pulsed s (sEvent corr stamp step s) := by
  unfold sEvent; dsimp only
  generalize h1 : backtrackTest _ _ = s1
  have k1 : Pulsed s s1 := by
    subst h1; refine (backtrackTest_pulsed _ _).after ?_; exact odo_pulsed s _ rfl rfl rfl rfl
  have k2 : Pulsed s { s1 with
      odo := { s1.odo with highWater := max s1.odo.highWater (s.odo.runDistance + step) } } :=
    k1.trans (odo_pulsed s1 _ rfl rfl rfl rfl)
  split
  · next h => exact k2.trans (createPoints_pulsed _ _ _ (k2.state.trans h.1))
  · exact k2

theorem reportFault_pulsed (s : State) : Pulsed s (reportFault s) := by
  refine .ite (.refl s) ((offerAll_pulsed _ _ _ _).after ⟨?_, rfl, rfl, rfl, rfl, rfl, id⟩)
  exact pos_keeps s _ rfl rfl rfl

theorem enterSlide_pulsed (s : State) : Pulsed s (enterSlide s) := by
  unfold enterSlide; dsimp only
  have k1 : Pulsed s { s with odo := s.odo.disagreed } := odo_pulsed s _ rfl rfl rfl rfl
  have k2 : Pulsed s (if s.odo.disagreed.state ≠ s.odo.state then odometryNotice 0 { s with odo := s.odo.disagreed }
      else { s with odo := s.odo.disagreed }) := .ite ((offerAll_pulsed _ _ _ _).after k1) k1
  exact .ite ((reportFault_pulsed _).after k2) k2

theorem correctSlide_pulsed (w : Window) (stamp : Nat) (s : State) : Pulsed s (correctSlide w stamp s) := by
  unfold correctSlide; dsimp only
  generalize h : sEvent true stamp _ s = s1
  have k : Pulsed s s1 := by subst h; exact sEvent_pulsed _ _ _ s
  exact .ite (k.trans (odo_pulsed s1 _ rfl rfl rfl rfl)) (.refl s)

theorem closeAgreeing_pulsed (s : State) : Pulsed s (closeAgreeing s) := by
  unfold closeAgreeing; dsimp only
  refine .ite ((offerAll_pulsed _ _ _ _).after ?_) ?_ <;> exact odo_pulsed s _ rfl rfl rfl rfl

theorem windowTest_pulsed (stamp : Nat) (s : State) : Pulsed s (windowTest stamp s) := by
  unfold windowTest; split
  · dsimp only
    refine .ite (.ite ?_ (.ite ((closeAgreeing_pulsed _).after ?_)
      ((correctSlide_pulsed _ _ _).after ((enterSlide_pulsed _).after ?_)))) (.refl s) <;>
        exact odo_pulsed s _ rfl rfl rfl rfl
  · exact .refl s

theorem pulse_pulsed (c : Channel) (stamp : Nat) (fwd : Bool) (s : State) : Pulsed s (pulse c stamp fwd s) := by
  refine .ite (.refl s) (.ite (.refl s) ?_)
  unfold takePulse; dsimp only
  refine (windowTest_pulsed _ _).after (.ite ((sEvent_pulsed _ _ _ _).after ?_) ?_) <;>
    exact odo_pulsed s _ rfl rfl rfl rfl

/-- ODO with the candidate of a line validated (R4). -/
def Odo.validated (o : Odo) (l : TachLine) : Odo :=
  { o with lines := o.lines.set l { o.lines.get l with filtered := !(o.lines.get l).filtered, candidate := none } }

/-- After the validation of a line's candidate, an edge is a pulse or nothing more. -/
theorem validateEdge_pulsed (l : TachLine) (t : Nat) (s : State) :
    Pulsed { s with odo := s.odo.validated l } (validateEdge l t s) := by
  unfold validateEdge; dsimp only; split
  · exact .ite (pulse_pulsed _ _ _ _) (.refl _)
  · exact .refl _

end Sys2Proof.Machine
end

section
/-!
PROOFS. The idle step (R2, notes/assumptions/1.md, 5.md). An event that is not due changes nothing; one that is taken
makes no other due, but for the rise of SPACING after a validated edge; and the due edges are taken in the order of their
stamps.
-/

namespace Sys2Proof.Machine

variable {s t u : State}

/-! ### An event that is not due changes nothing -/

theorem LineState.due_iff {l : LineState} {glitchUs now : Nat} :
    l.due glitchUs now = true ↔ ∃ t, l.candidate = some t ∧ t + glitchUs ≤ now := by
  unfold LineState.due
  cases l.candidate <;> simp

/-- An edge is due exactly when its candidate has held for glitch_us (R4). -/
theorem due_edge_iff {l : TachLine} :
    s.Due (.tachEdgeValidated l) ↔ (s.odo.lines.get l).due s.run.settings.glitchUs s.now = true := by
  rw [LineState.due_iff]
  constructor
  · rintro ⟨⟩; exact ⟨_, ‹_›, ‹_›⟩
  · rintro ⟨t, ht, hle⟩; exact .edge l t ht hle

theorem due_align_iff : s.Due .alignDeadline ↔ deadlineReached s = true := by
  rw [deadlineReached_iff]
  constructor
  · rintro ⟨⟩; exact ⟨_, ‹_›, ‹_›⟩
  · rintro ⟨d, hd, hle⟩; exact .align d hd hle

theorem takeEdge_of_not_due {l : TachLine} (h : ¬s.Due (.tachEdgeValidated l)) : takeEdge l s = s := by
  rw [due_edge_iff, Bool.not_eq_true] at h
  unfold takeEdge; dsimp only
  split
  · simp [h]
  · rfl

theorem staleDeadline_of_not_due {c : Source} (h : ¬s.Due (.sourceStaleDeadline c)) : staleDeadline c s = s := by
  unfold staleDeadline
  split
  · next d hd =>
    split
    · next hle => exact if_neg fun hl => h (.stale c d hl hd hle)
    · rfl
  · rfl

theorem alignDeadline_of_not_due (h : ¬s.Due .alignDeadline) : alignDeadline s = s :=
  if_neg fun k => h (due_align_iff.mpr k)

theorem presenceDeadline_of_not_due {p : PortId} (h : ¬s.Due (.presenceDeadline p)) : presenceDeadline p s = s := by
  unfold presenceDeadline
  split
  · next d hd => exact if_neg fun k => h (.presence p d k.1 hd k.2)
  · rfl

theorem yieldDeadline_of_not_due (h : ¬s.Due .yieldDeadline) : yieldDeadline s = s := by
  unfold yieldDeadline
  split
  · next p d hp hd => exact if_neg fun k => h (.yield p d hp hd k)
  · rfl

theorem spacingEnd_of_not_due (h : ¬s.Due .spacingPulseEnd) : spacingEnd s = s :=
  if_neg fun k => h (.fall k.1 k.2)

theorem spacingStart_of_not_due (h : ¬s.Due .spacingPulseStart) : spacingStart s = s :=
  if_neg fun k => h (.rise k.1 k.2.1 k.2.2)

/-! ### The events of an idle step as commands -/

/-- The state that a command leads to. -/
def State.next (s : State) (c : Instr) : State :=
  match exec c s with
  | .next t => t
  | .fault _ => s
  | .refused _ => s

theorem exec_next (c : Instr) (s : State) : exec c s = .next (s.next c) := by
  obtain ⟨t, ht, -⟩ := exec_bounded c s
  simp [State.next, ht]

theorem carryOut_foldl (l : List Instr) (s : State) :
    l.foldl carryOut (.next s) = .next (l.foldl State.next s) := by
  induction l generalizing s with
  | nil => rfl
  | cons c l ih => rw [List.foldl_cons, carryOut, exec_next, ih]; rfl

theorem next_stale (c : Source) (s : State) : s.next (.sourceStaleDeadline c) = staleDeadline c s := rfl

theorem next_align (s : State) : s.next .alignDeadline = alignDeadline s := rfl

theorem next_presence (p : PortId) (s : State) : s.next (.presenceDeadline p) = presenceDeadline p s := rfl

theorem next_yield (s : State) : s.next .yieldDeadline = yieldDeadline s := rfl

theorem next_fall (s : State) : s.next .spacingPulseEnd = spacingEnd s := rfl

theorem next_rise (s : State) : s.next .spacingPulseStart = spacingStart s := rfl

/-- The events that an idle step takes after the edges and before the rise of SPACING, in their order (log 5). -/
def laterEvents : List Instr :=
  [ .sourceStaleDeadline .headL, .sourceStaleDeadline .headR, .sourceStaleDeadline .inertial,
    .sourceStaleDeadline .marker, .alignDeadline, .presenceDeadline .p0, .presenceDeadline .p1,
    .presenceDeadline .p2, .presenceDeadline .p3, .yieldDeadline, .spacingPulseEnd ]

theorem takeDue_eq (s : State) :
    takeDue s = spacingStart (laterEvents.foldl State.next (takeDueEdges s)) := by
  simp only [laterEvents, List.foldl_cons, List.foldl_nil, next_stale, next_align, next_presence, next_yield, next_fall]
  simp only [takeDue, PortId.all, List.foldl_cons, List.foldl_nil]

/-- An event of an idle step is an edge, one of the later ones, or the rise of SPACING. -/
theorem Due.mem {c : Instr} (h : s.Due c) :
    (∃ l, c = .tachEdgeValidated l) ∨ c ∈ laterEvents ∨ c = .spacingPulseStart := by
  cases h with
  | edge l => exact .inl ⟨l, rfl⟩
  | stale c => exact .inr (.inl (by cases c <;> decide))
  | align => exact .inr (.inl (by decide))
  | presence p => exact .inr (.inl (by cases p <;> decide))
  | yield => exact .inr (.inl (by decide))
  | fall => exact .inr (.inl (by decide))
  | rise => exact .inr (.inr rfl)

/-- An event of an idle step that is not due changes nothing. -/
theorem next_of_not_due {c : Instr} (hc : (∃ l, c = .tachEdgeValidated l) ∨ c ∈ laterEvents) (h : ¬s.Due c) :
    s.next c = s := by
  rcases hc with ⟨l, rfl⟩ | hc
  · exact takeEdge_of_not_due h
  · simp only [laterEvents, List.mem_cons, List.not_mem_nil, or_false] at hc
    rcases hc with rfl | rfl | rfl | rfl | rfl | rfl | rfl | rfl | rfl | rfl | rfl
    · exact staleDeadline_of_not_due h
    · exact staleDeadline_of_not_due h
    · exact staleDeadline_of_not_due h
    · exact staleDeadline_of_not_due h
    · exact alignDeadline_of_not_due h
    · exact presenceDeadline_of_not_due h
    · exact presenceDeadline_of_not_due h
    · exact presenceDeadline_of_not_due h
    · exact presenceDeadline_of_not_due h
    · exact yieldDeadline_of_not_due h
    · exact spacingEnd_of_not_due h

/-! ### The due edges in their order (R4, notes/assumptions/12.md) -/

/-- A line's candidate is due and no line has an earlier one. -/
def State.edgeReady (s : State) (l : TachLine) : Bool :=
  match (s.odo.lines.get l).candidate with
  | some x => (s.odo.lines.get l).due s.run.settings.glitchUs s.now && noEarlier s.odo.lines x
  | none => false

/-- One edge is taken, when one is ready. -/
def takeOneEdge (s : State) : State :=
  match TachLine.all.find? s.edgeReady with
  | some l => takeEdge l s
  | none => s

theorem takeDueEdges_eq (s : State) : takeDueEdges s = (List.range 4).foldl (fun t _ => takeOneEdge t) s := rfl

theorem edgeReady_iff {l : TachLine} :
    s.edgeReady l = true ↔ ∃ x, (s.odo.lines.get l).candidate = some x ∧ x + s.run.settings.glitchUs ≤ s.now ∧
      ∀ k y, (s.odo.lines.get k).candidate = some y → x ≤ y := by
  have early (x : Nat) : noEarlier s.odo.lines x = true ↔
      ∀ k y, (s.odo.lines.get k).candidate = some y → x ≤ y := by
    unfold noEarlier
    rw [List.all_eq_true]
    refine ⟨fun h k y hy => ?_, fun h k _ => ?_⟩
    · have := h k (by cases k <;> decide)
      simpa [hy] using this
    · cases hy : (s.odo.lines.get k).candidate with
      | none => rfl
      | some y => simpa using h k y hy
  unfold State.edgeReady
  cases hc : (s.odo.lines.get l).candidate with
  | none => simp
  | some x =>
    have hd := LineState.due_iff (l := s.odo.lines.get l) (glitchUs := s.run.settings.glitchUs) (now := s.now)
    simp only [hc, Option.some.injEq, exists_eq_left'] at hd
    simp [hd, early]

/-- The search finds a line of which the test holds and holds for no earlier line. -/
theorem find?_line {f : TachLine → Bool} {l : TachLine} (h : f l = true)
    (hb : ∀ k, TachLine.all.idxOf k < TachLine.all.idxOf l → f k = false) : TachLine.all.find? f = some l := by
  cases l with
  | t1A => simp [TachLine.all, h]
  | t1B => simp [TachLine.all, h, hb .t1A (by decide)]
  | t2A => simp [TachLine.all, h, hb .t1A (by decide), hb .t1B (by decide)]
  | t2B => simp [TachLine.all, h, hb .t1A (by decide), hb .t1B (by decide), hb .t2A (by decide)]

/-- With no edge due, none is taken. -/
theorem takeOneEdge_of_none (h : s.DueEdges []) : takeOneEdge s = s := by
  have hf : TachLine.all.find? s.edgeReady = none := by
    refine List.find?_eq_none.mpr fun l _ hl => ?_
    obtain ⟨x, hx, hle, -⟩ := edgeReady_iff.mp hl
    exact List.not_mem_nil ((h.due l).mpr (.edge l x hx hle))
  unfold takeOneEdge; rw [hf]

/-- The first of the due edges is the one that is taken. -/
theorem takeOneEdge_of_cons {l : TachLine} {ls : List TachLine} (h : s.DueEdges (l :: ls)) :
    takeOneEdge s = takeEdge l s ∧ s.edgeReady l = true := by
  obtain ⟨hfirst, -⟩ := List.pairwise_cons.mp h.ordered
  have hdue : s.Due (.tachEdgeValidated l) := (h.due l).mp List.mem_cons_self
  obtain ⟨x, hx, hle⟩ := LineState.due_iff.mp (due_edge_iff.mp hdue)
  have hready : s.edgeReady l = true := by
    refine edgeReady_iff.mpr ⟨x, hx, hle, fun k y hy => Nat.le_of_not_lt fun hlt => ?_⟩
    rcases List.mem_cons.mp ((h.due k).mpr (.edge k y hy (by omega))) with rfl | hk
    · have : x = y := Option.some.inj (hx.symm.trans hy)
      omega
    · rcases hfirst k hk x y hx hy with h1 | h1 <;> omega
  refine ⟨?_, hready⟩
  have hf : TachLine.all.find? s.edgeReady = some l := by
    refine find?_line hready fun k hk => Bool.eq_false_iff.mpr fun hr => ?_
    obtain ⟨y, hy, hyle, hmin⟩ := edgeReady_iff.mp hr
    rcases List.mem_cons.mp ((h.due k).mpr (.edge k y hy hyle)) with rfl | hk'
    · exact Nat.lt_irrefl _ hk
    · have hxy := hmin l x hx
      rcases hfirst k hk' x y hx hy with h1 | ⟨-, h1⟩
      · omega
      · exact Nat.lt_asymm hk h1
  unfold takeOneEdge; rw [hf]

/-- A ready edge that is taken: its line's candidate is gone, and what follows is a pulse. -/
theorem takeEdge_of_ready {l : TachLine} (h : s.edgeReady l = true) :
    Pulsed { s with odo := s.odo.validated l } (takeEdge l s) := by
  obtain ⟨x, hx, -⟩ := edgeReady_iff.mp h
  have hcond : ((s.odo.lines.get l).due s.run.settings.glitchUs s.now && noEarlier s.odo.lines x) = true := by
    simpa only [State.edgeReady, hx] using h
  have htake : takeEdge l s = validateEdge l x s := by simp only [takeEdge, hx, hcond, if_true]
  rw [htake]
  exact validateEdge_pulsed l x s

/-- When an edge has been taken, the others that were due still are, in the same order. -/
theorem DueEdges.tail {l : TachLine} {ls : List TachLine} (h : s.DueEdges (l :: ls)) :
    (takeEdge l s).DueEdges ls := by
  have k := takeEdge_of_ready (takeOneEdge_of_cons h).2
  obtain ⟨hnot, hnodup⟩ := List.nodup_cons.mp h.nodup
  have cand (j : TachLine) : ((takeEdge l s).odo.lines.get j).candidate =
      if j = l then none else (s.odo.lines.get j).candidate := by
    rw [k.lines, Odo.validated]; dsimp only
    rw [PerLine.get_set_ite]; split <;> rfl
  have hne {j : TachLine} (hj : j ∈ ls) : j ≠ l := fun e => hnot (e ▸ hj)
  refine ⟨hnodup, fun j => ?_, ?_⟩
  · rw [due_edge_iff, LineState.due_iff, cand, k.keeps.now, k.keeps.settings]
    constructor
    · intro hj
      obtain ⟨x, hx, hle⟩ := LineState.due_iff.mp (due_edge_iff.mp ((h.due j).mp (List.mem_cons_of_mem _ hj)))
      exact ⟨x, by rw [if_neg (hne hj)]; exact hx, hle⟩
    · rintro ⟨x, hx, hle⟩
      by_cases hj : j = l
      · rw [if_pos hj] at hx; cases hx
      · rw [if_neg hj] at hx
        exact (List.mem_cons.mp ((h.due j).mpr (.edge j x hx hle))).resolve_left hj
  · refine (List.pairwise_cons.mp h.ordered).2.imp_of_mem fun {a b} ha hb hab => ?_
    rw [cand, cand, if_neg (hne ha), if_neg (hne hb)]; exact hab

/-- Enough rounds take the due edges one after the other. -/
theorem takeEdges_foldl {α : Type} (rounds : List α) {lines : List TachLine} {s : State} (h : s.DueEdges lines)
    (hlen : lines.length ≤ rounds.length) :
    rounds.foldl (fun t _ => takeOneEdge t) s = lines.foldl (fun t l => takeEdge l t) s := by
  induction rounds generalizing lines s with
  | nil => rw [List.length_eq_zero_iff.mp (Nat.le_zero.mp hlen)]; rfl
  | cons r rounds ih =>
    cases lines with
    | nil =>
      rw [List.foldl_cons, takeOneEdge_of_none h]
      exact ih h (Nat.zero_le _)
    | cons l ls =>
      rw [List.foldl_cons, List.foldl_cons, (takeOneEdge_of_cons h).1]
      exact ih (DueEdges.tail h) (Nat.le_of_succ_le_succ hlen)

/-- An idle step takes the due edges in their order (R4). -/
theorem takeDueEdges_of_dueEdges {lines : List TachLine} (h : s.DueEdges lines) :
    takeDueEdges s = (lines.map Instr.tachEdgeValidated).foldl State.next s := by
  have hlen : lines.length ≤ TachLine.all.length :=
    (List.subperm_of_subset h.nodup fun l _ => by cases l <;> decide).length_le
  rw [takeDueEdges_eq, takeEdges_foldl (List.range 4) h hlen, List.foldl_map]; rfl

/-! ### An event that is taken makes no other due -/

/-- From `s` to `t`, no event but the rise of SPACING becomes due. -/
structure Quieter (s t : State) : Prop where
  now : t.now = s.now
  glitchUs : t.run.settings.glitchUs = s.run.settings.glitchUs
  edge : ∀ l x, (t.odo.lines.get l).candidate = some x → (s.odo.lines.get l).candidate = some x
  stale : ∀ c d, (t.unit c).state = .live → (t.unit c).deadline = some d →
    (s.unit c).state = .live ∧ (s.unit c).deadline = some d
  align : deadlineReached s = false → deadlineReached t = false
  presence : ∀ p d, (t.port p).state = .active → (t.port p).presenceAt = some d →
    (s.port p).state = .active ∧ (s.port p).presenceAt = some d
  yield : ∀ p d, t.svc.claimant = some p → t.svc.yieldAt = some d → s.svc.claimant = some p ∧ s.svc.yieldAt = some d
  fall : t.odo.spacingHigh = true → t.odo.spacingSince + 10 ≤ t.now →
    s.odo.spacingHigh = true ∧ s.odo.spacingSince + 10 ≤ s.now

theorem Quieter.not_due (h : Quieter s t) {c : Instr} (hc : c ≠ .spacingPulseStart) (hs : ¬s.Due c) : ¬t.Due c := by
  intro k
  apply hs
  cases k with
  | edge l x hx hle => exact .edge l x (h.edge l x hx) (by rw [← h.glitchUs, ← h.now]; exact hle)
  | stale c d hl hd hle =>
    obtain ⟨hl', hd'⟩ := h.stale c d hl hd
    exact .stale c d hl' hd' (h.now ▸ hle)
  | align d hd' hle =>
    refine due_align_iff.mpr (Bool.of_not_eq_false fun k => ?_)
    exact Bool.false_ne_true ((h.align k).symm.trans (deadlineReached_iff.mpr ⟨d, hd', hle⟩))
  | presence p d ha hp hle =>
    obtain ⟨ha', hp'⟩ := h.presence p d ha hp
    exact .presence p d ha' hp' (h.now ▸ hle)
  | yield p d hp hy hle =>
    obtain ⟨hp', hy'⟩ := h.yield p d hp hy
    exact .yield p d hp' hy' (h.now ▸ hle)
  | fall hh hs' =>
    obtain ⟨hh', hle⟩ := h.fall hh hs'
    exact .fall hh' hle
  | rise => exact absurd rfl hc

theorem Quieter.refl (s : State) : Quieter s s :=
  ⟨rfl, rfl, fun _ _ h => h, fun _ _ h k => ⟨h, k⟩, id, fun _ _ h k => ⟨h, k⟩, fun _ _ h k => ⟨h, k⟩,
    fun h k => ⟨h, k⟩⟩

theorem Quieter.trans (h : Quieter s t) (k : Quieter t u) : Quieter s u := by
  refine ⟨k.now.trans h.now, k.glitchUs.trans h.glitchUs, fun l x e => h.edge l x (k.edge l x e), fun c d a b => ?_,
    k.align ∘ h.align, fun p d a b => ?_, fun p d a b => ?_, fun a b => ?_⟩
  · obtain ⟨a', b'⟩ := k.stale c d a b; exact h.stale c d a' b'
  · obtain ⟨a', b'⟩ := k.presence p d a b; exact h.presence p d a' b'
  · obtain ⟨a', b'⟩ := k.yield p d a b; exact h.yield p d a' b'
  · obtain ⟨a', b'⟩ := k.fall a b; exact h.fall a' b'

/-- From `s` to `t`, no event becomes due, SPACING's rise included. -/
structure Settles (s t : State) : Prop where
  quieter : Quieter s t
  rise : t.Due .spacingPulseStart → s.Due .spacingPulseStart

theorem Settles.refl (s : State) : Settles s s := ⟨Quieter.refl s, id⟩

theorem Settles.trans (h : Settles s t) (k : Settles t u) : Settles s u :=
  ⟨h.quieter.trans k.quieter, h.rise ∘ k.rise⟩

theorem Settles.ite {c : Prop} [Decidable c] (ht : Settles s t) (hu : Settles s u) :
    Settles s (if c then t else u) := by split <;> assumption

/-- A pulse makes no event due but the rise of SPACING. -/
theorem Pulsed.quieter (h : Pulsed s t) : Quieter s t := by
  refine ⟨h.keeps.now, by rw [h.keeps.settings], fun l x hx => h.lines ▸ hx, fun c d a b => ?_, h.align,
    fun p d a b => ?_, fun p d a b => ?_, fun a b => ?_⟩
  · unfold State.unit at *; rw [← h.units]; exact ⟨a, b⟩
  · exact ⟨(h.keeps.ports p).state ▸ a, (h.keeps.ports p).presenceAt ▸ b⟩
  · rw [← h.keeps.svc]; exact ⟨a, b⟩
  · exact ⟨h.high ▸ a, by rw [← h.since, ← h.keeps.now]; exact b⟩

/-- A validated edge makes no event due but the rise of SPACING: its own candidate is gone. -/
theorem takeEdge_quieter (l : TachLine) (s : State) (h : s.edgeReady l = true) : Quieter s (takeEdge l s) := by
  refine Quieter.trans (t := { s with odo := s.odo.validated l }) ?_ (takeEdge_of_ready h).quieter
  refine ⟨rfl, rfl, fun j x hx => ?_, fun _ _ a b => ⟨a, b⟩, id, fun _ _ a b => ⟨a, b⟩, fun _ _ a b => ⟨a, b⟩,
    fun a b => ⟨a, b⟩⟩
  have hg := PerLine.get_set_ite s.odo.lines j l
    { s.odo.lines.get l with filtered := !(s.odo.lines.get l).filtered, candidate := none }
  rw [show ({ s with odo := s.odo.validated l } : State).odo.lines.get j = _ from hg] at hx
  split at hx
  · cases hx
  · exact hx

/-- A calm event that leaves no alignment deadline newly reached makes no event due. -/
theorem Calm.settles (h : Calm s t) (ha : deadlineReached s = false → deadlineReached t = false) : Settles s t := by
  obtain ⟨hl, hh, hs, ho⟩ := h.odo_fields
  refine ⟨⟨h.keeps.now, by rw [h.keeps.settings], fun l x hx => hl ▸ hx, fun c d a b => ?_, ha, fun p d a b => ?_,
    fun p d a b => ?_, fun a b => ?_⟩, ?_⟩
  · unfold State.unit at *; rw [← h.units]; exact ⟨a, b⟩
  · exact ⟨(h.keeps.ports p).state ▸ a, (h.keeps.ports p).presenceAt ▸ b⟩
  · rw [← h.keeps.svc]; exact ⟨a, b⟩
  · exact ⟨hh ▸ a, by rw [← hs, ← h.keeps.now]; exact b⟩
  · rintro ⟨⟩
    exact .rise (hh ▸ ‹_›) (ho ▸ ‹_›) (by rw [← hs, ← h.keeps.now]; assumption)

theorem examine_settles (s : State) : Settles s (examine s) :=
  (examine_calm s).settles fun h => examine_not_reached fun _ => h

theorem alignDeadline_settles (s : State) : Settles s (alignDeadline s) := .ite (examine_settles s) (.refl s)

theorem changeSource_unit (c j : Source) (after : SourceState) (s : State) :
    (changeSource c after s).unit j = if j = c then { s.unit c with state := after } else s.unit j :=
  PerSource.get_set_ite s.intake.units j c _

theorem staleDeadline_settles (c : Source) (s : State) : Settles s (staleDeadline c s) := by
  have lost : Settles s (changeSource c .stale (updateUnit c (fun u => { u with deadline := none }) s)) := by
    refine ⟨⟨rfl, rfl, fun _ _ h => h, fun j d a b => ?_, id, fun p d a b => ?_, fun _ _ a b => ⟨a, b⟩,
      fun a b => ⟨a, b⟩⟩, ?_⟩
    · rw [changeSource_unit] at a b
      split at a
      · cases a
      · next hj =>
        rw [if_neg hj] at b
        rw [updateUnit_unit_of_ne _ _ hj] at a b
        exact ⟨a, b⟩
    · have k := (changeSource_keeps c .stale (updateUnit c (fun u => { u with deadline := none }) s)).ports p
      exact ⟨k.state ▸ a, k.presenceAt ▸ b⟩
    · rintro ⟨⟩; exact .rise ‹_› ‹_› ‹_›
  unfold staleDeadline
  split
  · exact .ite (.ite (lost.trans (.ite (examine_settles _) (.refl _))) (.refl s)) (.refl s)
  · exact .refl s

/-! ### Presence and authority -/

/-- From `s` to `t`, nothing changes but the ports, their streams, authority and the pending END_RUN. -/
def LinksOnly (s t : State) : Prop :=
  ∃ ports svc streams pendingEnd, t = { s with
    ports := ports, svc := svc, store := { s.store with streams := streams },
    run := { s.run with pendingEnd := pendingEnd } }

theorem LinksOnly.refl (s : State) : LinksOnly s s := ⟨_, _, _, _, rfl⟩

theorem LinksOnly.trans (h : LinksOnly s t) (k : LinksOnly t u) : LinksOnly s u := by
  obtain ⟨_, _, _, _, rfl⟩ := h
  obtain ⟨_, _, _, _, rfl⟩ := k
  exact ⟨_, _, _, _, rfl⟩

/-- The claimant becomes holder: links only, no pending claim any more, and what `PortKeeps` names at every port. -/
theorem passTo_links (q : PortId) (cause : AuthCause) (s : State) :
    LinksOnly s (passTo q cause s) ∧ (passTo q cause s).svc.claimant = none ∧
      ∀ j, PortKeeps (s.port j) ((passTo q cause s).port j) := by
  have hset : ∀ j, PortKeeps (s.port j) ((setHolder (some q) cause s).port j) :=
    (offerAll_calm _ _ _ { s with svc := { holder := some q, claimant := none, yieldAt := none } }).keeps.ports
  unfold passTo grantClaim answerClaim
  split
  · refine ⟨⟨_, _, _, _, rfl⟩, rfl, fun j => ?_⟩
    exact (hset j).trans (((reply_calm q _ _ _).trans (setInService_calm q none _)).keeps.ports j)
  · exact ⟨⟨_, _, _, _, rfl⟩, rfl, hset⟩

/-- A port's authority or claim is dropped: links only, a claim is gone or authority is as it was, and what `PortKeeps`
names stays at every port. -/
theorem dropAuthority_links (p : PortId) (s : State) :
    LinksOnly s (dropAuthority p s) ∧
      ((dropAuthority p s).svc.claimant = none ∨ (dropAuthority p s).svc = s.svc) ∧
      ∀ j, PortKeeps (s.port j) ((dropAuthority p s).port j) := by
  unfold dropAuthority
  split
  · split
    · obtain ⟨hlinks, hclaim, hports⟩ := passTo_links ‹_› .holderLost s
      exact ⟨hlinks, .inl hclaim, hports⟩
    · refine ⟨⟨_, _, _, _, rfl⟩, .inl rfl, ?_⟩
      exact (offerAll_calm _ _ _ { s with svc := { holder := none, claimant := none, yieldAt := none } }).keeps.ports
  · split
    · exact ⟨⟨_, _, _, _, rfl⟩, .inl rfl, fun _ => PortKeeps.refl _⟩
    · exact ⟨.refl s, .inr rfl, fun _ => PortKeeps.refl _⟩

theorem dropPendingEnd_links (p : PortId) (s : State) :
    LinksOnly s (dropPendingEnd p s) ∧ (dropPendingEnd p s).svc = s.svc ∧ (dropPendingEnd p s).ports = s.ports := by
  unfold dropPendingEnd
  split
  · split
    · exact ⟨⟨_, _, _, _, rfl⟩, rfl, rfl⟩
    · exact ⟨.refl s, rfl, rfl⟩
  · exact ⟨.refl s, rfl, rfl⟩

/-- A port leaves ACTIVE: links only, a claim is gone or authority is as it was, and the other ports keep what
`PortKeeps` names. -/
theorem leaveActive_links (p : PortId) (dest : PortState) (s : State) :
    LinksOnly s (leaveActive p dest s) ∧
      ((leaveActive p dest s).svc.claimant = none ∨ (leaveActive p dest s).svc = s.svc) ∧
      ∀ j, PortKeeps ((s.setPort p ((s.port p).left dest)).port j) ((leaveActive p dest s).port j) := by
  obtain ⟨hl, hs, hp⟩ := dropPendingEnd_links p (setStream p none (s.setPort p ((s.port p).left dest)))
  obtain ⟨hl', hs', hp'⟩ := dropAuthority_links p
    (dropPendingEnd p (setStream p none (s.setPort p ((s.port p).left dest))))
  refine ⟨(LinksOnly.trans ⟨_, _, _, _, rfl⟩ hl).trans hl', hs'.imp_right fun h => h.trans hs, fun j => ?_⟩
  have hj : (dropPendingEnd p (setStream p none (s.setPort p ((s.port p).left dest)))).port j =
      (s.setPort p ((s.port p).left dest)).port j := congrArg (PerPort.get · j) hp
  exact hj ▸ hp' j

/-- An event of the links makes no event due where ports that leave ACTIVE have no deadline and a claim only ends. -/
theorem LinksOnly.settles (h : LinksOnly s t)
    (hp : ∀ p d, (t.port p).state = .active → (t.port p).presenceAt = some d →
      (s.port p).state = .active ∧ (s.port p).presenceAt = some d)
    (hs : t.svc.claimant = none ∨ t.svc = s.svc) : Settles s t := by
  have hyield : ∀ p d, t.svc.claimant = some p → t.svc.yieldAt = some d →
      s.svc.claimant = some p ∧ s.svc.yieldAt = some d := by
    intro p d a b
    rcases hs with hs | hs
    · rw [hs] at a; cases a
    · rw [← hs]; exact ⟨a, b⟩
  obtain ⟨ports, svc, streams, pendingEnd, rfl⟩ := h
  refine ⟨⟨rfl, rfl, fun _ _ h => h, fun _ _ a b => ⟨a, b⟩, id, hp, hyield, fun a b => ⟨a, b⟩⟩, ?_⟩
  rintro ⟨⟩; exact .rise ‹_› ‹_› ‹_›

theorem presenceDeadline_links (p : PortId) (s : State) :
    LinksOnly s (presenceDeadline p s) ∧ Settles s (presenceDeadline p s) := by
  unfold presenceDeadline
  split
  · split
    · obtain ⟨hl, hs, hp⟩ := leaveActive_links p .silent s
      have hl' := hl.trans (⟨_, _, _, _, rfl⟩ : LinksOnly (leaveActive p .silent s) ((leaveActive p .silent s).setPort p
        { (leaveActive p .silent s).port p with
          presenceTimeouts := inc16 ((leaveActive p .silent s).port p).presenceTimeouts }))
      refine ⟨hl', hl'.settles (fun j d a b => ?_) hs⟩
      dsimp only at a b
      have k := hp j
      rw [State.port_setPort_ite] at a b k
      by_cases hj : j = p
      · subst hj
        rw [if_pos rfl] at b k
        exact absurd (b.symm.trans k.presenceAt) (by simp [Port.left])
      · rw [if_neg hj] at a b k
        exact ⟨k.state ▸ a, k.presenceAt ▸ b⟩
    · exact ⟨.refl s, .refl s⟩
  · exact ⟨.refl s, .refl s⟩

theorem yieldDeadline_links (s : State) : LinksOnly s (yieldDeadline s) ∧ Settles s (yieldDeadline s) := by
  unfold yieldDeadline
  split
  · split
    · obtain ⟨hl, hc, hp⟩ := passTo_links ‹_› .expired s
      exact ⟨hl, hl.settles (fun p d a b => ⟨(hp p).state ▸ a, (hp p).presenceAt ▸ b⟩) (.inl hc)⟩
    · exact ⟨.refl s, .refl s⟩
  · exact ⟨.refl s, .refl s⟩

/-! ### SPACING (R19) -/

theorem spacingEnd_settles (s : State) : Settles s (spacingEnd s) := by
  refine .ite ⟨⟨rfl, rfl, fun _ _ h => h, fun _ _ a b => ⟨a, b⟩, id, fun _ _ a b => ⟨a, b⟩, fun _ _ a b => ⟨a, b⟩,
    fun a _ => Bool.noConfusion a⟩, ?_⟩ (.refl s)
  rintro (_ | _ | _ | _ | _ | _ | ⟨-, -, h⟩)
  exact absurd h (by simp)

/-- SPACING that has just gone high does not rise. -/
theorem spacingStart_spacingStart (s : State) (h : s.Due .spacingPulseStart) :
    spacingStart (spacingStart s) = spacingStart s := by
  cases h with
  | rise hh ho hs =>
    have hup : (spacingStart s).odo.spacingHigh = true := by
      unfold spacingStart; dsimp only; rw [if_pos ⟨hh, ho, hs⟩]
    exact spacingStart_of_not_due fun k => by
      cases k with
      | rise hlow => rw [hup] at hlow; cases hlow

/-- Each of the later events makes no event due. -/
theorem next_settles {c : Instr} (hc : c ∈ laterEvents) (s : State) : Settles s (s.next c) := by
  simp only [laterEvents, List.mem_cons, List.not_mem_nil, or_false] at hc
  rcases hc with rfl | rfl | rfl | rfl | rfl | rfl | rfl | rfl | rfl | rfl | rfl
  · exact staleDeadline_settles _ s
  · exact staleDeadline_settles _ s
  · exact staleDeadline_settles _ s
  · exact staleDeadline_settles _ s
  · exact alignDeadline_settles s
  · exact (presenceDeadline_links _ s).2
  · exact (presenceDeadline_links _ s).2
  · exact (presenceDeadline_links _ s).2
  · exact (presenceDeadline_links _ s).2
  · exact (yieldDeadline_links s).2
  · exact spacingEnd_settles s

/-! ### What an idle step leaves alone -/

/-- The count, the waiting commands, the settings, the run number and the tables stay. -/
structure KeepsShared (s t : State) : Prop where
  now : t.now = s.now
  pending : t.pending = s.pending
  settings : t.run.settings = s.run.settings
  number : t.run.number = s.run.number
  sections : t.cls.sections = s.cls.sections
  thresholds : t.cls.thresholds = s.cls.thresholds
  markers : t.pos.markers = s.pos.markers

theorem KeepsShared.trans (h : KeepsShared s t) (k : KeepsShared t u) : KeepsShared s u :=
  ⟨k.1.trans h.1, k.2.trans h.2, k.3.trans h.3, k.4.trans h.4, k.5.trans h.5, k.6.trans h.6, k.7.trans h.7⟩

theorem Keeps.shared (h : Keeps s t) : KeepsShared s t :=
  ⟨h.now, h.pending, h.settings, h.number, h.sections, h.thresholds, h.markers⟩

theorem LinksOnly.shared (h : LinksOnly s t) : KeepsShared s t := by
  obtain ⟨_, _, _, _, rfl⟩ := h
  exact ⟨rfl, rfl, rfl, rfl, rfl, rfl, rfl⟩

theorem foldl_shared {α : Type} {f : State → α → State} (h : ∀ s x, KeepsShared s (f s x)) (l : List α) (s : State) :
    KeepsShared s (l.foldl f s) := by
  induction l generalizing s with
  | nil => exact (Keeps.refl s).shared
  | cons x l ih => exact (h s x).trans (ih (f s x))

/-- The events of an idle step change no setting and no table. -/
theorem takeDue_shared (s : State) : KeepsShared s (takeDue s) := by
  have edges := (takeDueEdges_keeps s).shared
  have stale := edges.trans (foldl_shared (fun t c => (staleDeadline_keeps c t).shared)
    [Source.headL, .headR, .inertial, .marker] _)
  have align := stale.trans (alignDeadline_calm _).keeps.shared
  have presence := align.trans (foldl_shared (fun t p => (presenceDeadline_links p t).1.shared) PortId.all _)
  have yield := presence.trans (yieldDeadline_links _).1.shared
  exact (yield.trans (spacingEnd_keeps _).shared).trans (spacingStart_keeps _).shared

/-! ### The events of an idle step, one after the other -/

/-- An idle step carries out the commands of the due edges and those of the other events. -/
theorem takeDue_of_dueEdges {lines : List TachLine} (h : s.DueEdges lines) :
    takeDue s = spacingStart ((lines.map Instr.tachEdgeValidated ++ laterEvents).foldl State.next s) := by
  rw [takeDue_eq, takeDueEdges_of_dueEdges h, List.foldl_append]

theorem foldl_next_of_none {l : List Instr} (hl : ∀ c ∈ l, (∃ x, c = .tachEdgeValidated x) ∨ c ∈ laterEvents)
    (h : ∀ c ∈ l, ¬s.Due c) : l.foldl State.next s = s := by
  induction l with
  | nil => rfl
  | cons c l ih =>
    rw [List.foldl_cons, next_of_not_due (hl c List.mem_cons_self) (h c List.mem_cons_self)]
    exact ih (fun d hd => hl d (List.mem_cons_of_mem _ hd)) fun d hd => h d (List.mem_cons_of_mem _ hd)

/-- Of events of which one is due, only that one happens, when it makes no other due. -/
theorem foldl_next_of_one {l : List Instr} {c : Instr}
    (hl : ∀ d ∈ l, (∃ x, d = .tachEdgeValidated x) ∨ d ∈ laterEvents) (hn : l.Nodup) (hc : c ∈ l)
    (h : ∀ d, s.Due d → d = c) (hq : Quieter s (s.next c)) : l.foldl State.next s = s.next c := by
  induction l with
  | nil => cases hc
  | cons d l ih =>
    obtain ⟨hd, hnl⟩ := List.nodup_cons.mp hn
    have hl' : ∀ e ∈ l, (∃ x, e = .tachEdgeValidated x) ∨ e ∈ laterEvents := fun e he =>
      hl e (List.mem_cons_of_mem _ he)
    rw [List.foldl_cons]
    by_cases hdc : d = c
    · subst hdc
      refine foldl_next_of_none hl' fun e he => hq.not_due ?_ fun k => hd (h e k ▸ he)
      rintro rfl
      rcases hl' _ he with ⟨x, hx⟩ | hx
      · cases hx
      · revert hx; decide
    · rw [next_of_not_due (hl d List.mem_cons_self) fun k => hdc (h d k)]
      exact ih hl' hnl ((List.mem_cons.mp hc).resolve_left fun e => hdc e.symm)

theorem dueEdges_nil (h : ∀ l, ¬s.Due (.tachEdgeValidated l)) : s.DueEdges [] :=
  ⟨List.nodup_nil, fun l => iff_of_false List.not_mem_nil (h l), List.Pairwise.nil⟩

/-- With nothing due, an idle step takes no event. -/
theorem takeDue_of_none (h : ∀ c, ¬s.Due c) : takeDue s = s := by
  rw [takeDue_of_dueEdges (dueEdges_nil fun l => h _), spacingStart_of_not_due]
  · exact foldl_next_of_none (fun c hc => .inr hc) fun c _ => h c
  · rw [show (([] : List TachLine).map Instr.tachEdgeValidated ++ laterEvents).foldl State.next s = s from
      foldl_next_of_none (fun c hc => .inr hc) fun c _ => h c]
    exact h _

/-- With one event due, an idle step takes it, and then SPACING's rise where a validated edge has made that due. -/
theorem takeDue_of_one {c : Instr} (hc : s.Due c) (h : ∀ d, s.Due d → d = c) :
    takeDue s = spacingStart (s.next c) ∧
      ((∀ l, c ≠ .tachEdgeValidated l) → spacingStart (s.next c) = s.next c) := by
  rcases Due.mem hc with ⟨l, rfl⟩ | hlater | rfl
  · have hedges : s.DueEdges [l] := by
      refine ⟨List.nodup_singleton l, fun k => ⟨fun hk => List.mem_singleton.mp hk ▸ hc, fun hk => ?_⟩,
        List.pairwise_singleton _ _⟩
      cases h _ hk
      exact List.mem_singleton_self l
    refine ⟨?_, fun hno => absurd rfl (hno l)⟩
    rw [takeDue_of_dueEdges hedges]
    refine congrArg spacingStart (foldl_next_of_one ?_ ?_ List.mem_cons_self h
      (takeEdge_quieter l s (takeOneEdge_of_cons hedges).2))
    · intro d hd
      exact (List.mem_cons.mp hd).imp (fun e => ⟨l, e⟩) id
    · exact List.nodup_cons.mpr ⟨by simp [laterEvents], by decide⟩
  · have hno : ∀ l, c ≠ .tachEdgeValidated l := by rintro l rfl; simp [laterEvents] at hlater
    have hrise : ¬s.Due .spacingPulseStart := fun k => by rw [← h _ k] at hlater; revert hlater; decide
    have hs := next_settles hlater s
    refine ⟨?_, fun _ => spacingStart_of_not_due fun k => hrise (hs.rise k)⟩
    rw [takeDue_of_dueEdges (dueEdges_nil fun l k => hno l (h _ k).symm)]
    exact congrArg spacingStart (foldl_next_of_one (fun d hd => .inr hd) (by decide) hlater h hs.quieter)
  · have hup : spacingStart (s.next .spacingPulseStart) = s.next .spacingPulseStart := spacingStart_spacingStart s hc
    have hnone : laterEvents.foldl State.next s = s :=
      foldl_next_of_none (fun d hd => .inr hd) fun d hd k => by rw [h d k] at hd; revert hd; decide
    refine ⟨?_, fun _ => hup⟩
    rw [hup, takeDue_of_dueEdges (dueEdges_nil fun l k => Instr.noConfusion (h _ k))]
    exact congrArg spacingStart hnone

/-- Settles O2: the events of the step by `takeDue_of_dueEdges`, and its two special cases by the lemmas that an event not
due changes nothing and that the one taken makes no other due. -/
theorem idleStepCountsOneMicrosecond : Obligations.IdleStepCountsOneMicrosecond := by
  intro s hp
  have hstep : step s = .next (tick s) := by unfold step; rw [hp]
  refine ⟨fun h => ?_, fun h => ?_⟩
  · exact hstep.trans (congrArg Host.Outcome.next (if_pos h))
  · have k := takeDue_shared s
    have htick : tick s = { takeDue s with now := s.now + 1 } := by
      have hn : ¬timebaseEnd ≤ s.now := Nat.not_le.mpr h
      unfold tick; rw [if_neg hn, ← k.now]
    refine ⟨_, hstep.trans (congrArg Host.Outcome.next htick), rfl, k.pending.trans hp, k.settings, k.number, k.sections,
      k.thresholds, k.markers, fun hnone => ?_, fun c hc honly => ?_, fun lines hl => ?_⟩
    · rw [takeDue_of_none hnone]
    · obtain ⟨htake, hrest⟩ := takeDue_of_one hc honly
      exact ⟨s.next c, spacingStart (s.next c), exec_next c s, rfl, by rw [htake], spacingStart_of_not_due, hrest⟩
    · refine ⟨takeDue s, ?_, rfl⟩
      rw [carryOut_foldl, takeDue_of_dueEdges hl, List.foldl_append, List.foldl_append]
      simp only [laterEvents, List.foldl_cons, List.foldl_nil, next_rise]

end Sys2Proof.Machine
end

section
/-!
PROOFS. The way of a sensor frame to its unit (R24 to R30), and the frames that are discarded (R25, R26).
-/

namespace Sys2Proof.Machine

/-! ### The unit of a source -/

/-- Two changes of one unit are one change. -/
@[simp] theorem updateUnit_updateUnit (c : Source) (f g : SourceUnit → SourceUnit) (s : State) :
    updateUnit c g (updateUnit c f s) = updateUnit c (fun u => g (f u)) s := by
  simp [updateUnit]

/-- A change that leaves the unit as it is changes nothing. -/
theorem updateUnit_self {c : Source} {f : SourceUnit → SourceUnit} {s : State} (h : f (s.unit c) = s.unit c) :
    updateUnit c f s = s := by
  have hset : s.intake.units.set c (f (s.intake.units.get c)) = s.intake.units := by
    rw [show f (s.intake.units.get c) = s.intake.units.get c from h, PerSource.set_get]
  simp [updateUnit, hset]

/-- Changes of one unit that agree on what it holds agree. -/
theorem updateUnit_congr {c : Source} {f g : SourceUnit → SourceUnit} {s : State} (h : f (s.unit c) = g (s.unit c)) :
    updateUnit c f s = updateUnit c g s := by
  have hset : f (s.intake.units.get c) = g (s.intake.units.get c) := h
  simp [updateUnit, hset]

theorem addSat16_eq (n k : Nat) : addSat16 n k = min 65535 (n + k) := by
  unfold addSat16; split <;> omega

/-! ### The receiver's verdict (R25, R26) -/

/-- A unit with the header correction of a frame counted (R25). -/
def SourceUnit.withHeader (u : SourceUnit) (corrected : Bool) : SourceUnit :=
  { u with correctedHeaders := if corrected then min 65535 (u.correctedHeaders + 1) else u.correctedHeaders }

section

variable {c : Source} {bytes : List Byte} {s : State} {k : Bool}

/-- The header correction of a frame is counted in the unit (R25). -/
theorem countHeader_eq (c : Source) (k : Bool) (s : State) :
    (if k then updateUnit c (fun u => { u with correctedHeaders := inc16 u.correctedHeaders }) s else s) =
      updateUnit c (·.withHeader k) s := by
  cases k
  · exact (updateUnit_self rfl).symm
  · rw [if_pos rfl]
    exact updateUnit_congr (by simp [SourceUnit.withHeader, inc16_eq])

theorem sensorFrame_of_error (hup : (s.unit c).linkUp = true) {e : BadCause}
    (h : receive bytes = { corrected := k, result := .error e }) :
    sensorFrame c bytes s = badSensorFrame c (updateUnit c (·.withHeader k) s) := by
  simp only [sensorFrame, hup, if_true, h, countHeader_eq]

theorem sensorFrame_of_ok (hup : (s.unit c).linkUp = true) {f : RxFrame}
    (h : receive bytes = { corrected := k, result := .ok f }) :
    sensorFrame c bytes s = checkedSensorFrame c f (updateUnit c (·.withHeader k) s) := by
  simp only [sensorFrame, hup, if_true, h, countHeader_eq]

end

/-- A bad frame counts once in its source's unit. -/
theorem badSensorFrame_withHeader (c : Source) (k : Bool) (s : State) :
    badSensorFrame c (updateUnit c (·.withHeader k) s) = updateUnit c (fun u => { u with
      badFrames := min 65535 (u.badFrames + 1),
      correctedHeaders := if k then min 65535 (u.correctedHeaders + 1) else u.correctedHeaders }) s := by
  rw [badSensorFrame, updateUnit_updateUnit]
  exact updateUnit_congr (by simp [SourceUnit.withHeader, inc16_eq])

/-- Settles O16: each verdict of the receiver (bad, of another kind, of a wrong length) is one more count in the unit,
beside that of the header. -/
theorem sensorFramesThatAreDiscarded : Obligations.SensorFramesThatAreDiscarded := by
  intro c bytes s k hup headers
  refine ⟨fun e h => ?_, fun f h hkind => ?_, fun f h hkind hlen => ?_⟩
  · exact congrArg Host.Outcome.next ((sensorFrame_of_error hup h).trans (badSensorFrame_withHeader c k s))
  · refine congrArg Host.Outcome.next ((sensorFrame_of_ok hup h).trans ?_)
    rw [checkedSensorFrame, if_pos hkind, updateUnit_updateUnit]
    exact updateUnit_congr (by simp [SourceUnit.withHeader, inc16_eq, headers])
  · refine congrArg Host.Outcome.next ((sensorFrame_of_ok hup h).trans ?_)
    rw [checkedSensorFrame, if_neg (not_not_intro hkind), if_pos hlen]
    exact badSensorFrame_withHeader c k s

end Sys2Proof.Machine
end

section
/-!
PROOFS. The brackets of a crossing time, and the values of a source read from them (R40, R48 to R53).
-/

namespace Sys2Proof.Machine

/-! ### Rounding between limits (R1, R49) -/

/-- A quotient between two integers is rounded to one between them. -/
theorem roundDiv_mem {a lo hi : Int} {b : Nat} (hb : 0 < b) (hlo : lo * b ≤ a) (hhi : a ≤ hi * b) :
    lo ≤ roundDiv a b ∧ roundDiv a b ≤ hi := by
  have hnear := (roundingIsToNearestTiesAway a b hb).1
  refine ⟨Int.not_lt.mp fun k => ?_, Int.not_lt.mp fun k => ?_⟩
  · have hmul : (roundDiv a b + 1) * b ≤ lo * b := Int.mul_le_mul_of_nonneg_right k (Int.natCast_nonneg b)
    rw [Int.add_mul, Int.one_mul] at hmul
    omega
  · have hmul : (hi + 1) * b ≤ roundDiv a b * b := Int.mul_le_mul_of_nonneg_right k (Int.natCast_nonneg b)
    rw [Int.add_mul, Int.one_mul] at hmul
    omega

/-- An interpolated value lies between the values at its brackets (R49). -/
theorem interpolate_mem (xa xb : Int) {ta tb t : Nat} (ha : ta ≤ t) (hb : t < tb) :
    min xa xb ≤ interpolate xa xb ta tb t ∧ interpolate xa xb ta tb t ≤ max xa xb := by
  have hpos : 0 < tb - ta := by omega
  have h0 : (0 : Int) ≤ t - ta := by omega
  have h1 : (t : Int) - ta ≤ (tb - ta : Nat) := by omega
  unfold interpolate
  rcases Int.le_total xa xb with hx | hx
  · have hd : (0 : Int) ≤ xb - xa := Int.sub_nonneg.mpr hx
    have h := roundDiv_mem (lo := 0) hpos (by simpa using Int.mul_nonneg hd h0) (Int.mul_le_mul_of_nonneg_left h1 hd)
    omega
  · have hd : xb - xa ≤ (0 : Int) := Int.sub_nonpos_of_le hx
    have h := roundDiv_mem (hi := 0) hpos (Int.mul_le_mul_of_nonpos_left hd h1)
      (by simpa using Int.mul_nonpos_of_nonpos_of_nonneg hd h0)
    omega

/-! ### Brackets (R40) -/

section

variable {α : Type} {q front back : List (Entry α)} {a b : Entry α} {t : Nat}

theorem lowerBracket_of_later (h : ∀ e ∈ q, t < e.stamp) : lowerBracket q t = none := by
  have hf : q.filter (fun e => decide (e.stamp ≤ t)) = [] :=
    List.filter_eq_nil_iff.mpr fun e he => by simpa using h e he
  simp [lowerBracket, hf]

theorem lowerBracket_append (ha : a.stamp ≤ t) (hb : ∀ e ∈ back, t < e.stamp) :
    lowerBracket (front ++ a :: back) t = some a := by
  have hf : back.filter (fun e => decide (e.stamp ≤ t)) = [] :=
    List.filter_eq_nil_iff.mpr fun e he => by simpa using hb e he
  simp [lowerBracket, ha, hf]

theorem upperBracket_of_early (h : ∀ e ∈ q, e.stamp ≤ t) : upperBracket q t = none :=
  List.find?_eq_none.mpr fun e he => by simpa using h e he

theorem upperBracket_append (hf : ∀ e ∈ front, e.stamp ≤ t) (hb : t < b.stamp) :
    upperBracket (front ++ b :: back) t = some b := by
  have hnone : front.find? (fun e => decide (t < e.stamp)) = none := upperBracket_of_early hf
  simp [upperBracket, List.find?_append, hnone, hb]

/-- A lower bracket is an entry of its queue at or below the time. -/
theorem lowerBracket_mem (h : lowerBracket q t = some a) : a ∈ q ∧ a.stamp ≤ t := by
  simpa using List.mem_of_getLast? h

theorem lowerBracket_isSome : (lowerBracket q t).isSome = true ↔ ∃ e ∈ q, e.stamp ≤ t := by
  rw [Option.isSome_iff_exists]
  refine ⟨fun ⟨a, h⟩ => ⟨a, lowerBracket_mem h⟩, fun ⟨e, he, hs⟩ => ?_⟩
  exact Option.ne_none_iff_exists'.mp fun h =>
    List.ne_nil_of_mem (List.mem_filter.mpr ⟨he, decide_eq_true hs⟩) (List.getLast?_eq_none_iff.mp h)

theorem upperBracket_isSome : (upperBracket q t).isSome = true ↔ ∃ e ∈ q, t < e.stamp := by
  simp [upperBracket]

/-- Where a queue in stamp order stands to a time: empty, with an entry on each side, or on one side alone. -/
theorem brackets_cases (q : List (Entry α)) (t : Nat) (h : q.Pairwise fun a b => a.stamp < b.stamp) :
    q = [] ∨ (∃ front a b back, q = front ++ a :: b :: back ∧ a.stamp ≤ t ∧ t < b.stamp) ∨
      ∃ e, ((∃ front, q = front ++ [e]) ∧ e.stamp ≤ t) ∨ ((∃ back, q = e :: back) ∧ t < e.stamp) := by
  induction q with
  | nil => exact .inl rfl
  | cons e q ih =>
    by_cases he : t < e.stamp
    · exact .inr (.inr ⟨e, .inr ⟨⟨q, rfl⟩, he⟩⟩)
    · have hle := Nat.le_of_not_lt he
      rcases ih (List.pairwise_cons.mp h).2 with rfl | ⟨front, a, b, back, rfl, ha, hb⟩ | ⟨d, ⟨⟨front, rfl⟩, hd⟩ |
        ⟨⟨back, rfl⟩, hd⟩⟩
      · exact .inr (.inr ⟨e, .inl ⟨⟨[], rfl⟩, hle⟩⟩)
      · exact .inr (.inl ⟨e :: front, a, b, back, rfl, ha, hb⟩)
      · exact .inr (.inr ⟨d, .inl ⟨⟨e :: front, rfl⟩, hd⟩⟩)
      · exact .inr (.inl ⟨[], e, d, back, rfl, hle, hd⟩)

end

/-! ### The values (R48 to R53) -/

section

variable {α : Type} {between : α → α → Nat → Nat → Nat → α} {zero : α} {a b : Option (Entry α)} {t count holdLimit : Nat}

/-- The hold limit changes a HELD source alone (R52). -/
theorem applyHoldLimit_of_ne_held {r : SourceRead α} (h : r.status ≠ .held) :
    applyHoldLimit zero count holdLimit r = r := if_neg fun k => h k.1

theorem applyHoldLimit_of_held {r : SourceRead α} (h : r.status = .held) :
    applyHoldLimit zero count holdLimit r =
      if holdLimit < min 65535 (count + 1) then { vals := zero, status := .void, clamp := false } else r := by
  simp [applyHoldLimit, h, holdCountAfter, inc16_eq]

/-- A source with channels that are each interpolated is read from its brackets (R48 to R53). -/
theorem readSource_readsAt {channels : List (α → Int)}
    (hch : ∀ f ∈ channels, ∀ x y ta tb t, f (between x y ta tb t) = interpolate (f x) (f y) ta tb t)
    (q : List (Entry α)) (t count holdLimit : Nat) (hq : q.Pairwise fun a b => a.stamp < b.stamp) :
    ReadsAt channels zero q t count holdLimit (readSource between zero q t count holdLimit) := by
  refine ⟨?_, ?_, ?_⟩
  · rintro rfl
    exact applyHoldLimit_of_ne_held (by simp [readBrackets, lowerBracket, upperBracket])
  · rintro front a b back rfl ha hb
    have hlater : ∀ e ∈ b :: back, t < e.stamp := by
      have hback := (List.pairwise_cons.mp (List.pairwise_append.mp hq).2.1).2
      intro e he
      rcases List.mem_cons.mp he with rfl | he
      · exact hb
      · exact hb.trans ((List.pairwise_cons.mp hback).1 e he)
    have hearly : ∀ e ∈ front ++ [a], e.stamp ≤ t := by
      have hfront := (List.pairwise_append.mp hq).2.2
      intro e he
      rcases List.mem_append.mp he with he | he
      · exact (hfront e he a List.mem_cons_self).le.trans ha
      · exact List.mem_singleton.mp he ▸ ha
    have hupper : upperBracket (front ++ a :: b :: back) t = some b := by
      simpa using upperBracket_append (back := back) hearly hb
    rw [readSource, lowerBracket_append ha hlater, hupper]
    refine ⟨rfl, rfl, fun f hf => ?_⟩
    have hmem := interpolate_mem (f a.vals) (f b.vals) ha hb
    rw [← hch f hf] at hmem
    exact ⟨hch f hf _ _ _ _ _, hmem⟩
  · intro e he
    have hread : readSource between zero q t count holdLimit =
        applyHoldLimit zero count holdLimit { vals := e.vals, status := .held, clamp := e.clamp } := by
      rcases he with ⟨⟨front, rfl⟩, he⟩ | ⟨⟨back, rfl⟩, he⟩
      · have hearly : ∀ d ∈ front ++ [e], d.stamp ≤ t := by
          intro d hd
          rcases List.mem_append.mp hd with hd | hd
          · exact ((List.pairwise_append.mp hq).2.2 d hd e List.mem_cons_self).le.trans he
          · exact List.mem_singleton.mp hd ▸ he
        rw [readSource, lowerBracket_append he (by simp), upperBracket_of_early hearly, readBrackets]
      · have hlater : ∀ d ∈ e :: back, t < d.stamp := by
          intro d hd
          rcases List.mem_cons.mp hd with rfl | hd
          · exact he
          · exact he.trans ((List.pairwise_cons.mp hq).1 d hd)
        have hupper : upperBracket (e :: back) t = some e :=
          upperBracket_append (front := []) (fun _ k => absurd k List.not_mem_nil) he
        rw [readSource, lowerBracket_of_later hlater, hupper, readBrackets]
    rw [hread, applyHoldLimit_of_held rfl]
    exact ⟨fun h => if_neg (Nat.not_lt.mpr h), fun h => if_pos h⟩

end

/-- Settles O21: the two kinds of source are read alike, as each of their channels is interpolated, and a raw point holds
the three reads. -/
theorem sourceReadFollowsItsBrackets : Obligations.SourceReadFollowsItsBrackets := by
  refine ⟨fun q t count holdLimit => readSource_readsAt ?_ q t count holdLimit,
    fun q t count holdLimit => readSource_readsAt ?_ q t count holdLimit, fun c s => ?_⟩
  · simp [InertialVals.between]
  · simp [HeadVals.between]
  · exact ⟨rfl, rfl, rfl, rfl, rfl, rfl, rfl⟩

end Sys2Proof.Machine
end

section
/-!
PROOFS. What streams, notices and exceedance records change (R103 to R107, R154 to R164, R205): no frontier, no slot, no
answer of a port, and no open record is left without the grouping state that closes it.
-/

namespace Sys2Proof.Machine

/-! ### Open records and their parameters (R154) -/

/-- Every open record of a list is the one that its parameter's grouping state names (R154). -/
def OpenTracked (l : List ExcRecord) (g : PerParam Group) : Prop :=
  ∀ r ∈ l, r.closing = none → ∃ o, (g.get r.param).current = some o ∧ o.id = r.id

section

variable {l l' : List ExcRecord} {g : PerParam Group} {p : Param} {o : OpenGroup}

/-- A parameter that closes its open record needs no grouping state for it. -/
theorem OpenTracked.close (h : OpenTracked l g) (ho : (g.get p).current = some o) (c : Closing) (x : Group) :
    OpenTracked (updateRecord o.id (fun r => { r with closing := some c }) l) (g.set p x) := by
  intro r hr hopen
  obtain ⟨d, hd, rfl⟩ := List.mem_map.mp hr
  by_cases hid : d.id = o.id
  · rw [if_pos hid] at hopen; cases hopen
  · rw [if_neg hid] at hopen ⊢
    obtain ⟨y, hy, hyid⟩ := h d hd hopen
    have hp : d.param ≠ p := by
      rintro rfl
      obtain rfl := Option.some.inj (hy.symm.trans ho)
      exact hid hyid.symm
    exact ⟨y, by rw [PerParam.get_set_of_ne _ _ hp]; exact hy, hyid⟩

/-- A parameter without an open record opens one. -/
theorem OpenTracked.append (h : OpenTracked l g) (hsub : ∀ r ∈ l', r ∈ l) (hp : (g.get p).current = none)
    {r : ExcRecord} (hr : r.param = p) {x : Group} (hx : x.current = some o) (hid : o.id = r.id) :
    OpenTracked (l' ++ [r]) (g.set p x) := by
  intro d hd hopen
  rcases List.mem_append.mp hd with hd | hd
  · obtain ⟨y, hy, hyid⟩ := h d (hsub d hd) hopen
    have hne : d.param ≠ p := by
      rintro rfl
      cases hy.symm.trans hp
    exact ⟨y, by rw [PerParam.get_set_of_ne _ _ hne]; exact hy, hyid⟩
  · obtain rfl := List.mem_singleton.mp hd
    exact ⟨o, by rw [hr, PerParam.get_set]; exact hx, hid⟩

/-- A change of a record that keeps its id, its parameter and whether it is open. -/
theorem OpenTracked.update (h : OpenTracked l g) (i : Nat) {f : ExcRecord → ExcRecord}
    (hf : ∀ r, (f r).id = r.id ∧ (f r).param = r.param ∧ (f r).closing = r.closing) :
    OpenTracked (updateRecord i f l) g := by
  intro r hr hopen
  obtain ⟨d, hd, rfl⟩ := List.mem_map.mp hr
  by_cases hid : d.id = i
  · rw [if_pos hid] at hopen ⊢
    obtain ⟨hi, hparam, hclosing⟩ := hf d
    rw [hi, hparam]
    exact h d hd (hclosing ▸ hopen)
  · rw [if_neg hid] at hopen ⊢
    exact h d hd hopen

/-- A change of a grouping state that names the same open record. -/
theorem OpenTracked.regroup (h : OpenTracked l g) {x : Group}
    (hx : x.current.map (·.id) = (g.get p).current.map (·.id)) : OpenTracked l (g.set p x) := by
  intro r hr hopen
  obtain ⟨y, hy, hyid⟩ := h r hr hopen
  by_cases hp : r.param = p
  · subst hp
    rw [hy, Option.map_some, Option.map_eq_some_iff] at hx
    obtain ⟨z, hz, hzid⟩ := hx
    exact ⟨z, by rw [PerParam.get_set]; exact hz, hzid.trans hyid⟩
  · exact ⟨y, by rw [PerParam.get_set_of_ne _ _ hp]; exact hy, hyid⟩

end

theorem evictFirst_mem {l l' : List ExcRecord} (h : evictFirst l = some l') : ∀ r ∈ l', r ∈ l := by
  induction l generalizing l' with
  | nil => cases h
  | cons d l ih =>
    unfold evictFirst at h
    split at h
    · cases h; exact fun r hr => List.mem_cons_of_mem _ hr
    · obtain ⟨k, hk, rfl⟩ := Option.map_eq_some_iff.mp h
      intro r hr
      rcases List.mem_cons.mp hr with rfl | hr
      · exact List.mem_cons_self
      · exact List.mem_cons_of_mem _ (ih hk r hr)

/-- The list in which a new record finds its place holds no other record than the list before (R163). -/
theorem placeFor_mem {l l' : List ExcRecord} {evicted : Bool} (h : placeFor l = some (l', evicted)) :
    ∀ r ∈ l', r ∈ l := by
  unfold placeFor at h
  split at h
  · cases h; exact fun r hr => hr
  · obtain ⟨k, hk, he⟩ := Option.map_eq_some_iff.mp h
    cases he
    exact evictFirst_mem hk

/-! ### Notices, streams and records -/

/-- From `s` to `t`, nothing changes but streams, records and what the ports are told; no port's answers change, and open
records stay tracked. -/
structure Tells (s t : State) : Prop where
  frame : t = { s with exm := t.exm, store := { s.store with streams := t.store.streams }, ports := t.ports }
  answers : ∀ j, (t.port j).replies = (s.port j).replies ∧ (t.port j).inService = (s.port j).inService
  tracked : OpenTracked s.exm.records s.exm.groups → OpenTracked t.exm.records t.exm.groups

theorem Tells.refl (s : State) : Tells s s := ⟨rfl, fun _ => ⟨rfl, rfl⟩, id⟩

theorem Tells.trans {s t u : State} (h : Tells s t) (k : Tells t u) : Tells s u where
  frame := k.frame.trans (by rw [h.frame])
  answers j := ⟨(k.answers j).1.trans (h.answers j).1, (k.answers j).2.trans (h.answers j).2⟩
  tracked := k.tracked ∘ h.tracked

/-- `Tells.trans` with the later event first, which the goal names. -/
theorem Tells.after {s t u : State} (k : Tells t u) (h : Tells s t) : Tells s u := h.trans k

theorem Tells.foldl {α : Type} {f : State → α → State} (h : ∀ s x, Tells s (f s x)) (l : List α) (s : State) :
    Tells s (l.foldl f s) := by
  induction l generalizing s with
  | nil => exact Tells.refl s
  | cons x l ih => exact (h s x).trans (ih (f s x))

theorem Tells.ite {s t u : State} {c : Prop} [Decidable c] (ht : Tells s t) (hu : Tells s u) :
    Tells s (if c then t else u) := by split <;> assumption

theorem offerTo_tells (p : PortId) (n : Notice) (s : State) : Tells s (offerTo p n s) := by
  refine ⟨rfl, fun j => ?_, id⟩
  rw [offerTo, State.port_setPort_ite]
  split
  · next e => rw [e, Port.offer_replies, Port.offer_inService]; exact ⟨rfl, rfl⟩
  · exact ⟨rfl, rfl⟩

theorem offerAll_tells (sel : Port → Bool) (c : NoticeClass) (w : List Word) (s : State) :
    Tells s (offerAll sel c w s) := by
  refine ⟨rfl, fun j => ?_, id⟩
  rw [port_offerAll]
  split
  · rw [Port.offer_replies, Port.offer_inService]; exact ⟨rfl, rfl⟩
  · exact ⟨rfl, rfl⟩

theorem setStream_tells (p : PortId) (x : Option Stream) (s : State) : Tells s (setStream p x s) :=
  ⟨rfl, fun _ => ⟨rfl, rfl⟩, id⟩

theorem endStream_tells (p : PortId) (why : StreamEnd) (s : State) : Tells s (endStream p why s) := by
  unfold endStream; split
  · exact (setStream_tells p none s).trans (offerTo_tells p _ _)
  · exact Tells.refl s

theorem runOverTest_tells (p : PortId) (s : State) : Tells s (runOverTest p s) := by
  unfold runOverTest; split
  · exact .ite (endStream_tells p _ s) (.refl s)
  · exact .refl s

theorem afterPoints_tells (p : PortId) (s : State) : Tells s (afterPoints p s) := by
  unfold afterPoints; split
  · exact .ite (endStream_tells p _ s) (runOverTest_tells p s)
  · exact .refl s

theorem buildPoints_tells (n : Nat) (p : PortId) (s : State) : Tells s (buildPoints n p s) := by
  induction n generalizing s with
  | zero => exact .refl s
  | succ n ih =>
    unfold buildPoints; split
    · exact .ite (.refl s)
        ((((offerTo_tells p _ s).trans (setStream_tells p _ _)).trans (afterPoints_tells p _)).trans (ih _))
    · exact .refl s

theorem streamBuildAll_tells (s : State) : Tells s (streamBuildAll s) :=
  Tells.foldl (fun t p => buildPoints_tells _ p t) _ s

/-- A change of EXM that keeps open records tracked. -/
theorem exm_tells {s : State} {e : Exm}
    (h : OpenTracked s.exm.records s.exm.groups → OpenTracked e.records e.groups) : Tells s { s with exm := e } :=
  ⟨rfl, fun _ => ⟨rfl, rfl⟩, h⟩

/-- A change of EXM's counters. -/
theorem exmCounts_tells {s : State} {e : Exm} (hr : e.records = s.exm.records := by rfl)
    (hg : e.groups = s.exm.groups := by rfl) : Tells s { s with exm := e } :=
  exm_tells fun h => by rw [hr, hg]; exact h

theorem announceUrgent_tells (r : ExcRecord) (s : State) : Tells s (announceUrgent r s) :=
  (offerAll_tells _ _ _ _).after exmCounts_tells

theorem closeRecord_tells (p : Param) (why : CloseReason) (i : Nat) (c : Int) (s : State) :
    Tells s (closeRecord p why i c s) := by
  unfold closeRecord; dsimp only; split
  · exact .refl s
  · next o ho =>
    split
    · exact (offerAll_tells _ _ _ _).after (exm_tells fun h => h.close ho _ _)
    · exact exm_tells fun h => h.close ho _ _

theorem closeAtLast_tells (p : Param) (why : CloseReason) (s : State) : Tells s (closeAtLast p why s) := by
  unfold closeAtLast; split
  · exact closeRecord_tells p why _ _ s
  · exact .refl s

/-- A parameter that closes at its last exceeding point has no open record; the others have theirs (R155). -/
theorem closeAtLast_current (p q : Param) (why : CloseReason) (s : State) :
    ((closeAtLast p why s).exm.groups.get q).current =
      if q = p then none else (s.exm.groups.get q).current := by
  unfold closeAtLast
  split
  · next o ho =>
    unfold closeRecord; dsimp only
    rw [ho]; dsimp only
    split <;> simp only [offerAll, State.mapPorts_exm, PerParam.get_set_ite] <;> split <;> rfl
  · next hnone =>
    split
    · next e => rw [e, hnone]
    · rfl

/-- A parameter without an open record opens one, or drops it (R156, R163). -/
theorem openRecord_tells {p : Param} {s : State} (hp : (s.exm.groups.get p).current = none) (l : Nat) (d : Side)
    (v : Int) (at' : PointPlace) : Tells s (openRecord p l d v at' s) := by
  unfold openRecord; dsimp only; split
  · exact exmCounts_tells
  · next l' evicted hplace =>
    have opened (r : ExcRecord) (o : OpenGroup) (x : Group) (e : Exm) (hr : r.param = p) (hid : o.id = r.id)
        (hx : x.current = some o) (hl : e.records = l' ++ [r]) (hg : e.groups = s.exm.groups.set p x) :
        Tells s { s with exm := e } := by
      refine exm_tells fun h => ?_
      rw [hl, hg]
      exact h.append (placeFor_mem hplace) hp hr hx hid
    split
    · exact (announceUrgent_tells _ _).after (opened _ _ _ _ rfl rfl rfl rfl rfl)
    · exact opened _ _ _ _ rfl rfl rfl rfl rfl

theorem extendRecord_tells {p : Param} {o : OpenGroup} {s : State} (ho : (s.exm.groups.get p).current = some o)
    (l : Nat) (v : Int) (at' : PointPlace) : Tells s (extendRecord p o l v at' s) := by
  unfold extendRecord; dsimp only
  generalize h1 : ({ s with exm := _ } : State) = s1
  have k1 : Tells s s1 := by
    subst h1
    have kept (r : ExcRecord) : (r.extend l v at'.index).id = r.id ∧ (r.extend l v at'.index).param = r.param ∧
        (r.extend l v at'.index).closing = r.closing := ⟨rfl, rfl, rfl⟩
    exact exm_tells fun h => (h.update o.id kept).regroup (by rw [ho]; rfl)
  split
  · exact k1
  · exact .ite ((k1.trans (.ite (announceUrgent_tells _ _) (.refl _))).trans (closeRecord_tells p _ _ _ _))
      (k1.trans (.ite (announceUrgent_tells _ _) (.refl _)))

theorem bridge_tells (p : Param) (s : State) : Tells s (bridge p s) := by
  have kept (n : Nat) : Tells s (setGroup p { s.exm.groups.get p with clean := n } s) :=
    exm_tells fun h => h.regroup rfl
  unfold bridge; dsimp only; split
  · exact .refl s
  · exact .ite ((kept _).trans (closeAtLast_tells p _ _)) (kept _)

theorem applyOutcome_tells (p : Param) (o : ParamOutcome) (v : Int) (at' : PointPlace) (s : State) :
    Tells s (applyOutcome p o v at' s) := by
  unfold applyOutcome; split
  · exact closeAtLast_tells p _ s
  · exact closeAtLast_tells p _ s
  · exact bridge_tells p s
  · split
    · next hnone => exact openRecord_tells hnone _ _ v at'
    · next g hg =>
      refine .ite (extendRecord_tells hg _ v at') ((closeAtLast_tells p _ s).trans (openRecord_tells ?_ _ _ v at'))
      rw [closeAtLast_current, if_pos rfl]

/-- The closes at the end of a run leave no parameter with an open record (R171). -/
theorem closeAllRunEnd_current (s : State) (p : Param) :
    ((closeAllRunEnd s).exm.groups.get p).current = none := by
  unfold closeAllRunEnd Param.all
  simp only [List.foldl_cons, List.foldl_nil, closeAtLast_current]
  cases p <;> simp

theorem closeAllRunEnd_tells (s : State) : Tells s (closeAllRunEnd s) :=
  Tells.foldl (fun t p => closeAtLast_tells p _ t) _ s

end Sys2Proof.Machine
end

section
/-!
PROOFS. What GEO and the completion of points do to the store, said once: the frontiers W, F and C, and the point that
each write changes (R61, R81, R83, R92).
-/

namespace Sys2Proof.Machine

/-! ### What a point was created with, and the answers of the ports -/

/-- What a point has from its creation on (R94). -/
def PointRec.origin (x : PointRec) : Nat × Int × Nat := (x.crossing, x.chainage, x.speed)

/-- From `s` to `t`, W and F stand, every point that a slot held is still held as it was created, no port's answers change,
and open records stay tracked. -/
structure Measures (s t : State) : Prop where
  w : t.store.w = s.store.w
  f : t.store.f = s.store.f
  points : ∀ i, (t.store.point i).map PointRec.origin = (s.store.point i).map PointRec.origin
  answers : ∀ j, (t.port j).replies = (s.port j).replies ∧ (t.port j).inService = (s.port j).inService
  tracked : OpenTracked s.exm.records s.exm.groups → OpenTracked t.exm.records t.exm.groups

section

variable {s t u : State}

theorem Measures.refl (s : State) : Measures s s := ⟨rfl, rfl, fun _ => rfl, fun _ => ⟨rfl, rfl⟩, id⟩

theorem Measures.trans (h : Measures s t) (k : Measures t u) : Measures s u where
  w := k.w.trans h.w
  f := k.f.trans h.f
  points i := (k.points i).trans (h.points i)
  answers j := ⟨(k.answers j).1.trans (h.answers j).1, (k.answers j).2.trans (h.answers j).2⟩
  tracked := k.tracked ∘ h.tracked

theorem Measures.after (k : Measures t u) (h : Measures s t) : Measures s u := h.trans k

theorem Measures.foldl {α : Type} {f : State → α → State} (h : ∀ s x, Measures s (f s x)) (l : List α) (s : State) :
    Measures s (l.foldl f s) := by
  induction l generalizing s with
  | nil => exact Measures.refl s
  | cons x l ih => exact (h s x).trans (ih (f s x))

theorem Measures.ite {c : Prop} [Decidable c] (ht : Measures s t) (hu : Measures s u) :
    Measures s (if c then t else u) := by split <;> assumption

theorem Tells.point (h : Tells s t) (i : Nat) : t.store.point i = s.store.point i := by rw [h.frame]; rfl

theorem Tells.frontiers (h : Tells s t) : t.store.w = s.store.w ∧ t.store.f = s.store.f ∧ t.store.c = s.store.c := by
  rw [h.frame]; exact ⟨rfl, rfl, rfl⟩

theorem Tells.measures (h : Tells s t) : Measures s t :=
  ⟨h.frontiers.1, h.frontiers.2.1, fun i => congrArg _ (h.point i), h.answers, h.tracked⟩

/-- A state with the same store, records and ports. -/
theorem Measures.of_eq (hs : t.store = s.store := by rfl) (he : t.exm = s.exm := by rfl)
    (hp : t.ports = s.ports := by rfl) : Measures s t := by
  refine ⟨by rw [hs], by rw [hs], fun i => by rw [hs], fun j => ?_, by rw [he]; exact id⟩
  rw [State.port, State.port, hp]; exact ⟨rfl, rfl⟩

end

/-! ### Writes (R92) -/

theorem writePoint_measures (k : Nat) (f : PointRec → PointRec) (s : State)
    (hf : ∀ x, (f x).origin = x.origin := by intro _; rfl) : Measures s (writePoint k f s) := by
  refine ⟨writePoint_store_w k f s, writePoint_store_f k f s, fun i => ?_, fun j => ⟨rfl, rfl⟩, id⟩
  rw [writePoint, Store.point_write]
  split
  · next h =>
    rw [h, Option.map_map]
    exact congrArg (fun g => Option.map g (s.store.point k)) (funext hf)
  · rfl

theorem writeParam_measures (k : Nat) (p : Param) (x : Limited) (s : State) : Measures s (writeParam k p x s) := by
  unfold writeParam
  exact .ite (Measures.after (.of_eq) (writePoint_measures k _ s))
    (writePoint_measures k _ s)

theorem writeVersines_measures (l : List VersineKind) (k m : Nat) (s : State) :
    Measures s (writeVersines l k m s) := by
  unfold writeVersines
  exact .ite (.refl s) (Measures.foldl (fun t v => writeParam_measures _ _ _ t) l s)

theorem voidVersines_measures (l : List VersineKind) (j m w : Nat) (s : State) :
    Measures s (voidVersines l j m w s) := by
  unfold voidVersines
  exact .ite (Measures.foldl (fun t v => writeParam_measures _ _ _ t) l s) (.refl s)

theorem geoClassify_measures (rp : RawPoint) (s : State) : Measures s (geoClassify rp s) :=
  Measures.after (writePoint_measures _ _ _) (.of_eq)

theorem geoPoint_measures (rp : RawPoint) (low : Bool) (s : State) : Measures s (geoPoint rp low s) := by
  rw [geoPoint_eq]
  exact (writeParam_measures _ _ _ _).after ((writeParam_measures _ _ _ _).after
    (Measures.after (.of_eq) ((writeParam_measures _ _ _ _).after (writeParam_measures _ _ _ s))))

/-! ### Completion (R81, R92, R152) -/

/-- A point with the classification and the flags of its judgement (R152). -/
def PointRec.judged (r : PointRec) (k : Classification) (highest : Nat) : PointRec :=
  { r with trackClass := k.trackClass, sectionId := k.sectionId, highest, exceeding := decide (1 ≤ highest),
           suppressed := decide (k.mask ≠ 0#8) }

/-- A judged point is written once; the frontiers stand. -/
theorem judgeHeld_store (x : PointRec) (s : State) :
    Measures s (judgeHeld x s) ∧ ∃ k highest, ∀ i, (judgeHeld x s).store.point i =
      if i = x.index then (s.store.point x.index).map (·.judged k highest) else s.store.point i := by
  unfold judgeHeld; dsimp only
  generalize hg : List.foldl _ { s with cls := s.cls.counted x.chainage } Param.all = u
  generalize List.foldl _ 0 Param.all = highest
  have k : Tells { s with cls := s.cls.counted x.chainage } u := by
    subst hg; exact Tells.foldl (fun t p => applyOutcome_tells p _ _ _ t) _ _
  have hcls : Measures s { s with cls := s.cls.counted x.chainage } := .of_eq
  constructor
  · exact (exmCounts_tells (s := _)).measures.after ((writePoint_measures _ _ _).after (k.measures.after hcls))
  · refine ⟨classify s.run.settings.defaultClass s.cls.sections x.chainage, highest, fun i =>
      (Store.point_write u.store i x.index _).trans ?_⟩
    rw [k.point, k.point]; rfl

theorem judgeLost_tells (s : State) : Tells s (judgeLost s) :=
  (exmCounts_tells (s := _)).after (Tells.foldl (fun t p => closeAtLast_tells p _ t) _ s)

/-- The part after C has moved to a point, with the streams tested (R81, R103). -/
def State.advancedTo (s : State) (j : Nat) : State := streamBuildAll { s with store := { s.store with c := some j } }

theorem completePoint_of_held {s : State} {j : Nat} {x : PointRec} (h : s.store.point j = some x) :
    completePoint j s =
      (writePoint j (fun r => { r with readable := true }) (judgeHeld x s)).advancedTo j := by
  unfold completePoint; rw [h]; rfl

theorem completePoint_of_lost {s : State} {j : Nat} (h : s.store.point j = none) :
    completePoint j s =
      (judgeLost { s with store := { s.store with overwritten := inc16 s.store.overwritten } }).advancedTo j := by
  unfold completePoint; rw [h]; rfl

theorem advancedTo_store (s : State) (j : Nat) :
    (s.advancedTo j).store.c = some j ∧ Measures s (s.advancedTo j) ∧
      ∀ i, (s.advancedTo j).store.point i = s.store.point i := by
  have h : Tells { s with store := { s.store with c := some j } } (s.advancedTo j) := streamBuildAll_tells _
  exact ⟨h.frontiers.2.2, h.measures.after ⟨rfl, rfl, fun _ => rfl, fun _ => ⟨rfl, rfl⟩, id⟩, h.point⟩

/-- C stands at the completed point, which is readable; no other point changes (R81, R92). -/
theorem completePoint_store (j : Nat) (s : State) :
    (completePoint j s).store.c = some j ∧ Measures s (completePoint j s) ∧ ∃ k highest,
      ∀ i, (completePoint j s).store.point i =
        if i = j then (s.store.point j).map fun r => { r.judged k highest with readable := true }
        else s.store.point i := by
  cases hx : s.store.point j with
  | none =>
    have k := judgeLost_tells { s with store := { s.store with overwritten := inc16 s.store.overwritten } }
    obtain ⟨hc, hm, hp⟩ := advancedTo_store
      (judgeLost { s with store := { s.store with overwritten := inc16 s.store.overwritten } }) j
    rw [completePoint_of_lost hx]
    refine ⟨hc, hm.after (k.measures.after ⟨rfl, rfl, fun _ => rfl, fun _ => ⟨rfl, rfl⟩, id⟩),
      ⟨0, 0, 0⟩, 0, fun i => (hp i).trans ((k.point i).trans ?_)⟩
    split
    · next e => rw [e]; exact hx
    · rfl
  | some x =>
    obtain rfl := (Store.point_eq_some.mp hx).2
    obtain ⟨hk, k, highest, hjudged⟩ := judgeHeld_store x s
    obtain ⟨hc, hm, hp⟩ := advancedTo_store
      (writePoint x.index (fun r => { r with readable := true }) (judgeHeld x s)) x.index
    rw [completePoint_of_held hx]
    refine ⟨hc, hm.after ((writePoint_measures _ _ _).after hk), k, highest, fun i => (hp i).trans ?_⟩
    rw [writePoint, Store.point_write, hjudged, hjudged, if_pos rfl]
    split
    · rw [Option.map_map, hx]; rfl
    · rfl

/-! ### A raw point (R61, R81) -/

theorem WritesParams.frontiers {s t : State} (h : WritesParams s t) :
    t.store.w = s.store.w ∧ t.store.f = s.store.f ∧ t.store.c = s.store.c := by
  obtain ⟨_, _, _, rfl⟩ := h; exact ⟨rfl, rfl, rfl⟩

/-- C follows at m_max points behind a raw point (R81). -/
theorem geoRawPoint_store (rp : RawPoint) (s : State) :
    Measures s (geoRawPoint rp s) ∧ (geoRawPoint rp s).store.c =
      if rp.index < s.run.settings.mMax then s.store.c else some (rp.index - s.run.settings.mMax) := by
  have k : Measures s (withVersinesOf rp s.run.settings
      (geoPoint rp (isLowSpeed s.run.settings.vMin s.geo.low rp.speed) (geoClassify rp s))) :=
    (writeVersines_measures _ _ _ _).after ((writeVersines_measures _ _ _ _).after
      ((geoPoint_measures rp _ _).after (geoClassify_measures rp s)))
  rw [geoRawPoint_eq]; dsimp only
  split
  · refine ⟨k, ?_⟩
    have hlevel := writeVersines_writes ⟨.levelL, true, true⟩ ⟨.levelR, false, true⟩ rp.index s.run.settings.levelHalf
    have halign := writeVersines_writes ⟨.alignL, true, false⟩ ⟨.alignR, false, false⟩ rp.index s.run.settings.alignHalf
    have hpoint := geoPoint_writes rp (isLowSpeed s.run.settings.vMin s.geo.low rp.speed) (geoClassify rp s)
    have hw := (halign _).frontiers.2.2.trans ((hlevel _).frontiers.2.2.trans hpoint.frontiers.2.2)
    exact hw.trans (writePoint_store_c _ _ _)
  · obtain ⟨hc, hm, -⟩ := completePoint_store (rp.index - s.run.settings.mMax) (withVersinesOf rp s.run.settings
      (geoPoint rp (isLowSpeed s.run.settings.vMin s.geo.low rp.speed) (geoClassify rp s)))
    exact ⟨hm.after k, hc⟩

/-! ### The tail (R83) -/

/-- What the completion of point `j` of the tail of a run with last point `w` does to the point: it is flagged TAIL and
readable, and the versines that would reach beyond `w` are VOID (R83). -/
structure EndsAt (c : Settings) (w j : Nat) (f : PointRec → PointRec) : Prop where
  flags : ∀ r, (f r).tail = true ∧ (f r).readable = true
  level : w < j + c.levelHalf → ∀ r, (f r).values.levelL = 0 ∧ (f r).statuses.levelL = .void ∧
    (f r).values.levelR = 0 ∧ (f r).statuses.levelR = .void
  align : w < j + c.alignHalf → ∀ r, (f r).values.alignL = 0 ∧ (f r).statuses.alignL = .void ∧
    (f r).values.alignR = 0 ∧ (f r).statuses.alignR = .void

/-- Point `j` alone changes where its two versines are written VOID (R83). -/
theorem voidVersines_point (v u : VersineKind) (j m w : Nat) (s : State) (i : Nat) :
    (voidVersines [v, u] j m w s).store.point i = if i = j then (s.store.point j).map fun x =>
      x.withVersines (decide (w < j + m)) v u ⟨0, .void, false⟩ ⟨0, .void, false⟩ else s.store.point i := by
  have h : voidVersines [v, u] j m w s = if w < j + m then
      writeParam j u.param ⟨0, .void, false⟩ (writeParam j v.param ⟨0, .void, false⟩ s) else s := rfl
  rw [h]
  by_cases hw : w < j + m
  · rw [if_pos hw, decide_eq_true hw, writeParam_point, writeParam_point, writeParam_point, if_pos rfl]
    by_cases hi : i = j
    · rw [if_pos hi, if_pos hi, Option.map_map]; rfl
    · rw [if_neg hi, if_neg hi, if_neg hi]
  · rw [if_neg hw, decide_eq_false hw]
    by_cases hi : i = j
    · rw [if_pos hi, hi]; exact (Option.map_id' (x := s.store.point j)).symm
    · rw [if_neg hi]

/-- A point of the tail after its completion, as it was judged (R83, R152). -/
def PointRec.tailPoint (x : PointRec) (c : Settings) (w j : Nat) (k : Classification) (highest : Nat) : PointRec :=
  { (({ (x.withVersines (decide (w < j + c.levelHalf)) ⟨.levelL, true, true⟩ ⟨.levelR, false, true⟩
        ⟨0, .void, false⟩ ⟨0, .void, false⟩).withVersines (decide (w < j + c.alignHalf)) ⟨.alignL, true, false⟩
        ⟨.alignR, false, false⟩ ⟨0, .void, false⟩ ⟨0, .void, false⟩ with tail := true } : PointRec).judged k
          highest) with readable := true }

theorem endsAt_tailPoint (c : Settings) (w j : Nat) (k : Classification) (highest : Nat) :
    EndsAt c w j (·.tailPoint c w j k highest) := by
  refine ⟨fun r => ⟨rfl, rfl⟩, fun hw r => ?_, fun hw r => ?_⟩
  · cases ha : decide (w < j + c.alignHalf) <;>
      simp [PointRec.tailPoint, PointRec.judged, PointRec.withVersines, hw, ha, PerParam.set]
  · simp [PointRec.tailPoint, PointRec.judged, PointRec.withVersines, hw, PerParam.set]

/-- A point of the tail is completed, and no other point changes (R83). -/
theorem completeTail_store (w j : Nat) (s : State) :
    (completeTail w j s).store.c = some j ∧ Measures s (completeTail w j s) ∧ ∃ f, EndsAt s.run.settings w j f ∧
      ∀ i, (completeTail w j s).store.point i =
        if i = j then (s.store.point j).map f else s.store.point i := by
  unfold completeTail levelKinds alignKinds; dsimp only
  obtain ⟨hc, hm, k, highest, hp⟩ := completePoint_store j (writePoint j (fun r => { r with tail := true })
    (voidVersines [⟨.alignL, true, false⟩, ⟨.alignR, false, false⟩] j s.run.settings.alignHalf w
      (voidVersines [⟨.levelL, true, true⟩, ⟨.levelR, false, true⟩] j s.run.settings.levelHalf w s)))
  refine ⟨hc, hm.after ((writePoint_measures _ _ _).after ((voidVersines_measures _ _ _ _ _).after
    (voidVersines_measures _ _ _ _ s))), _, endsAt_tailPoint s.run.settings w j k highest, fun i => ?_⟩
  rw [hp]
  by_cases hi : i = j
  · subst hi
    simp only [writePoint, Store.point_write, voidVersines_point, if_true, Option.map_map]
    rfl
  · simp only [writePoint, Store.point_write, voidVersines_point, hi, if_false]

end Sys2Proof.Machine
end

section
/-!
PROOFS. The formation of a point and the end of a run: what the tail, the RUN_END closes and the change to IDLE leave
(R39, R43, R54, R83, R107, R171, R178, R180, R181).
-/

namespace Sys2Proof.Machine

/-! ### The tail (R83) -/

theorem completeTail_upstream (w j : Nat) (s : State) : (completeTail w j s).upstream = s.upstream := by
  have h (l : List VersineKind) (m : Nat) (t : State) : (voidVersines l j m w t).upstream = t.upstream := by
    unfold voidVersines
    split
    · exact foldl_upstream (fun t v => (writeParam_writes _ _ _ t).upstream) l t
    · rfl
  exact (completePoint_upstream _ _).trans ((writePoint_upstream _ _ _).trans ((h _ _ _).trans (h _ _ _)))

/-- The points that a count of tail points names are completed, in the order of their indices. -/
theorem completeTails_store (w first n : Nat) (s : State) :
    let t := (List.range n).foldl (fun t i => completeTail w (first + i) t) s
    Measures s t ∧ t.store.c = (if n = 0 then s.store.c else some (first + n - 1)) ∧
      (∀ i, first ≤ i → i < first + n → ∃ f, EndsAt s.run.settings w i f ∧
        t.store.point i = (s.store.point i).map f) ∧
      ∀ i, ¬(first ≤ i ∧ i < first + n) → t.store.point i = s.store.point i := by
  induction n with
  | zero => exact ⟨.refl s, rfl, fun i h k => by omega, fun i _ => rfl⟩
  | succ n ih =>
    dsimp only at ih ⊢
    rw [List.range_succ, List.foldl_append, List.foldl_cons, List.foldl_nil]
    have hcalm := Calm.foldl (fun t i => completeTail_calm w (first + i) t) (List.range n) s
    generalize (List.range n).foldl (fun t i => completeTail w (first + i) t) s = u at ih hcalm ⊢
    obtain ⟨hm, -, hin, hout⟩ := ih
    obtain ⟨hc, hm', f, hf, hp⟩ := completeTail_store w (first + n) u
    refine ⟨hm.trans hm', by rw [hc, if_neg (by omega)]; congr 1, fun i h k => ?_, fun i h => ?_⟩
    · by_cases hi : i = first + n
      · subst hi
        refine ⟨f, hcalm.keeps.settings ▸ hf, ?_⟩
        rw [hp, if_pos rfl, hout _ (by omega)]
      · rw [hp, if_neg hi]
        exact hin i h (by omega)
    · rw [hp, if_neg (by omega)]
      exact hout i (by omega)

/-- The point after one that stands `m` points behind `w`. -/
theorem next_behind (w m : Nat) : ((behind (some w) m).map (· + 1)).getD 0 = w + 1 - m := by
  by_cases h : w < m
  · simp only [behind, if_pos h, Option.map_none, Option.getD_none]; omega
  · simp only [behind, if_neg h, Option.map_some, Option.getD_some]; omega

/-- The points after C up to W are completed, where C stands m_max points behind W (R81, R83). -/
theorem completeTailAll_store {w : Nat} {s : State} (hw : s.store.w = some w)
    (hc : s.store.c = behind (some w) s.run.settings.mMax) :
    (completeTailAll s).store.c = some w ∧ Measures s (completeTailAll s) ∧
      ∀ i, i ≤ w → w < i + s.run.settings.mMax → ∃ f, EndsAt s.run.settings w i f ∧
        (completeTailAll s).store.point i = (s.store.point i).map f := by
  have heq : completeTailAll s =
      let first := w + 1 - s.run.settings.mMax
      let t := (List.range (w + 1 - first)).foldl (fun t i => completeTail w (first + i) t) s
      { t with geo := { t.geo with tailDone := true } } := by
    unfold completeTailAll; rw [hw, hc, next_behind]
  obtain ⟨hm, hc', hp, -⟩ := completeTails_store w (w + 1 - s.run.settings.mMax)
    (w + 1 - (w + 1 - s.run.settings.mMax)) s
  rw [heq]; dsimp only
  refine ⟨?_, Measures.after .of_eq hm, fun i hi hlt => hp i (by omega) (by omega)⟩
  rw [hc']
  split
  · rw [hc, behind, if_neg (by omega)]; congr 1; omega
  · congr 1; omega

theorem completeTailAll_upstream (s : State) : (completeTailAll s).upstream = s.upstream := by
  unfold completeTailAll; dsimp only
  split
  · exact foldl_upstream (fun t i => completeTail_upstream _ _ t) _ s
  · rfl

theorem completeTailAll_tailDone (s : State) : (completeTailAll s).geo.tailDone = true := rfl

/-! ### The streams at the end of a run (R107) -/

theorem runOverTest_frame (p : PortId) (s : State) :
    runOverTest p s = { s with
      store := { s.store with streams := (runOverTest p s).store.streams }, ports := (runOverTest p s).ports } := by
  unfold runOverTest
  split
  · split
    · exact endStream_frame p .runOver s
    · rfl
  · rfl

theorem runOverTests_frame (l : List PortId) (s : State) :
    l.foldl (fun t p => runOverTest p t) s = { s with
      store := { s.store with streams := (l.foldl (fun t p => runOverTest p t) s).store.streams },
      ports := (l.foldl (fun t p => runOverTest p t) s).ports } := by
  induction l generalizing s with
  | nil => rfl
  | cons p l ih =>
    rw [List.foldl_cons, ih (runOverTest p s)]
    dsimp only
    rw [runOverTest_frame p s]

/-- A stream that the test leaves to its port has a cursor that C has reached (R107). -/
theorem runOverTest_stream {p j : PortId} {s : State} {x : Stream} (h : (runOverTest p s).stream j = some x) :
    s.stream j = some x ∧ (j = p → s.run.state = .idle → s.store.above x.cursor = false) := by
  unfold runOverTest at h
  cases hs : s.stream p with
  | none =>
    rw [hs] at h
    exact ⟨h, fun e => by rw [e, hs] at h; cases h⟩
  | some y =>
    rw [hs] at h; dsimp only at h
    split at h
    · rw [endStream_stream] at h
      split at h
      · cases h
      · next hj => exact ⟨h, fun e => absurd e hj⟩
    · next hno =>
      refine ⟨h, fun e hidle => ?_⟩
      rw [e, hs] at h
      obtain rfl := Option.some.inj h
      exact Bool.eq_false_iff.mpr fun k => hno ⟨hidle, k⟩

theorem runOverTests_stream {l : List PortId} {j : PortId} {s : State} {x : Stream}
    (h : (l.foldl (fun t p => runOverTest p t) s).stream j = some x) :
    s.stream j = some x ∧ (j ∈ l → s.run.state = .idle → s.store.above x.cursor = false) := by
  induction l generalizing s with
  | nil => exact ⟨h, fun k => absurd k List.not_mem_nil⟩
  | cons p l ih =>
    obtain ⟨h1, h2⟩ := ih h
    obtain ⟨h3, h4⟩ := runOverTest_stream h1
    refine ⟨h3, fun k hidle => ?_⟩
    rcases List.mem_cons.mp k with e | k
    · exact h4 e hidle
    · have hrun : (runOverTest p s).run = s.run := by rw [runOverTest_frame]
      have habove : (runOverTest p s).store.above x.cursor = s.store.above x.cursor := by
        rw [runOverTest_frame]; rfl
      exact habove ▸ h2 k (hrun ▸ hidle)

/-! ### The notice and the answer (R178, R181) -/

/-- A notice offered to an ACTIVE port stands last in its queue, or is lost at a full one (R205). -/
theorem Port.offer_told {q : Port} (h : q.state = .active) (n : Notice) :
    (q.offer n).notices.getLast? = some n ∨
      (16 ≤ (q.offer n).notices.length ∧ (q.offer n).linkErrors.getLsbD 6 = true) := by
  have hn : (q.attend n.cls).notices = q.notices := by unfold Port.attend; split <;> rfl
  rw [Port.offer, if_pos h, Port.enqueue]
  split
  · exact .inl (by simp)
  · next hfull =>
    refine .inr ⟨Nat.le_of_not_lt hfull, ?_⟩
    simp [Port.setError, LinkError.bit]

theorem answerEndRun_frame (s : State) :
    answerEndRun s = { s with run := { s.run with pendingEnd := none }, ports := (answerEndRun s).ports } := by
  unfold answerEndRun
  split
  · rfl
  · next h => rw [← h]

/-- The REPLY to the pending END_RUN (R181). -/
def endRunAnswer (tag : Byte) (s : State) : Answer :=
  { kind := .reply, tag, rest :=
    [s.run.number.setWidth 32, wordOfNat (s.store.w.getD 0), wordOfNat (tailPoints s.run.settings (s.store.w.getD 0))] }

/-- The port of the pending END_RUN is answered; the others stand (R181). -/
theorem answerEndRun_port {s : State} {p : PortId} {tag : Byte} (h : s.run.pendingEnd = some (p, tag)) (j : PortId) :
    (answerEndRun s).port j =
      if j = p then { s.port p with
        inService := none, replies := fillReserved (endRunAnswer tag s) (s.port p).replies }
      else s.port j := by
  have heq : (answerEndRun s).port j = (setInService p none (answer p (endRunAnswer tag s) s)).port j := by
    unfold answerEndRun; rw [h]; rfl
  rw [heq, setInService, answer, State.port_setPort, State.setPort_setPort, State.port_setPort_ite]

theorem answerEndRun_of_none {s : State} (h : s.run.pendingEnd = none) : answerEndRun s = s := by
  unfold answerEndRun; rw [h]

/-- The answer leaves what a port was told and what it asked (R181). -/
theorem answerEndRun_told (s : State) (j : PortId) :
    ((answerEndRun s).port j).notices = (s.port j).notices ∧
      ((answerEndRun s).port j).linkErrors = (s.port j).linkErrors := by
  cases h : s.run.pendingEnd with
  | none => rw [answerEndRun_of_none h]; exact ⟨rfl, rfl⟩
  | some x =>
    rw [answerEndRun_port h]
    split
    · next e => rw [e]; exact ⟨rfl, rfl⟩
    · exact ⟨rfl, rfl⟩

/-! ### IDLE (R181) -/

/-- The part with its run IDLE, before its streams are tested: no window, no awaited point, no reference time (R9, R36,
R57, R181). -/
def State.idled (s : State) : State :=
  { s with
    run := { s.run with state := .idle }, odo := { s.odo with window := none },
    grid := { s.grid with waiting := [], deadline := none }, intake := { s.intake with refTime := none } }

/-- The part with its run IDLE and its streams tested (R107, R181). -/
def State.streamsTested (s : State) : State := PortId.all.foldl (fun t p => runOverTest p t) s.idled

/-- The part whose END_RUN is answered at the end of a run: its streams tested, its ports told ENDED (R178, R181). -/
def State.endedTold (s : State) : State := runNotice .ended s.streamsTested

theorem becomeIdle_eq (s : State) : becomeIdle s = answerEndRun s.endedTold := rfl

theorem streamsTested_frame (s : State) :
    s.streamsTested = { s.idled with
      store := { s.store with streams := s.streamsTested.store.streams }, ports := s.streamsTested.ports } :=
  runOverTests_frame PortId.all s.idled

theorem becomeIdle_frame (s : State) :
    becomeIdle s = { s.idled with
      run := { s.run with state := .idle, pendingEnd := none }
      store := { s.store with streams := (becomeIdle s).store.streams }, ports := (becomeIdle s).ports } := by
  rw [becomeIdle_eq, answerEndRun_frame]
  unfold State.endedTold runNotice offerAll State.mapPorts
  rw [streamsTested_frame]
  rfl

theorem becomeIdle_stream {s : State} {j : PortId} {x : Stream} (h : (becomeIdle s).stream j = some x) :
    s.store.above x.cursor = false := by
  rw [becomeIdle_eq, answerEndRun_frame] at h
  exact (runOverTests_stream (l := PortId.all) h).2 (by cases j <;> decide) rfl

section

variable (s : State)

theorem endedTold_port (j : PortId) :
    s.endedTold.port j = (s.streamsTested.port j).offer
      { cls := .run, tag := 0#8,
        payload := runWords .ended s.store.w s.store.c { s with run := { s.run with state := .idle } } } := by
  rw [State.endedTold, runNotice, port_offerAll]
  have hwords (w c : Option Nat) : runWords .ended w c s.streamsTested =
      runWords .ended w c { s with run := { s.run with state := .idle } } := by
    rw [streamsTested_frame]; rfl
  have hstore : s.streamsTested.store.w = s.store.w ∧ s.streamsTested.store.c = s.store.c := by
    rw [streamsTested_frame]; exact ⟨rfl, rfl⟩
  rw [hwords, hstore.1, hstore.2]; rfl

theorem endedTold_run : s.endedTold.run = { s.run with state := .idle } := by
  show s.streamsTested.run = _
  rw [streamsTested_frame]; rfl

theorem endedTold_answers (j : PortId) :
    (s.endedTold.port j).replies = (s.port j).replies ∧ (s.endedTold.port j).inService = (s.port j).inService := by
  have h : Tells s.idled s.endedTold :=
    (Tells.foldl (fun t p => runOverTest_tells p t) PortId.all s.idled).trans (offerAll_tells _ _ _ _)
  exact h.answers j

theorem endRunAnswer_endedTold (tag : Byte) : endRunAnswer tag s.endedTold = endRunAnswer tag s := by
  have hw : s.endedTold.store.w = s.store.w := by
    show s.streamsTested.store.w = _
    rw [streamsTested_frame]
  rw [endRunAnswer, endRunAnswer, endedTold_run, hw]

end

/-- Every ACTIVE port is told ENDED, or has lost the notice at a full queue (R178, R205). -/
theorem becomeIdle_told {s : State} {j : PortId} (h : (s.port j).state = .active) :
    let n : Notice :=
      { cls := .run, tag := 0#8,
        payload := runWords .ended s.store.w s.store.c { s with run := { s.run with state := .idle } } }
    ((becomeIdle s).port j).notices.getLast? = some n ∨
      (16 ≤ ((becomeIdle s).port j).notices.length ∧ ((becomeIdle s).port j).linkErrors.getLsbD 6 = true) := by
  have hactive : (s.streamsTested.port j).state = .active :=
    ((Calm.foldl (fun t p => runOverTest_calm p t) PortId.all s.idled).keeps.ports j).state.trans h
  obtain ⟨hnotices, herrors⟩ := answerEndRun_told s.endedTold j
  rw [becomeIdle_eq, hnotices, herrors, endedTold_port]
  exact Port.offer_told hactive _

/-- The pending END_RUN is answered (R181). -/
theorem becomeIdle_answered {s : State} {p : PortId} {tag : Byte} (h : s.run.pendingEnd = some (p, tag)) :
    ((becomeIdle s).port p).inService = none ∧
      ((becomeIdle s).port p).replies = fillReserved (endRunAnswer tag s) (s.port p).replies := by
  rw [becomeIdle_eq, answerEndRun_port (by rw [endedTold_run]; exact h), if_pos rfl]
  exact ⟨rfl, by rw [endRunAnswer_endedTold, (endedTold_answers s p).1]⟩

/-- No other port is answered (R181). -/
theorem becomeIdle_others {s : State} {j : PortId} (h : ∀ tag, s.run.pendingEnd ≠ some (j, tag)) :
    ((becomeIdle s).port j).replies = (s.port j).replies ∧
      ((becomeIdle s).port j).inService = (s.port j).inService := by
  have hsame : (becomeIdle s).port j = s.endedTold.port j := by
    cases hp : s.run.pendingEnd with
    | none => rw [becomeIdle_eq, answerEndRun_of_none (by rw [endedTold_run]; exact hp)]
    | some x =>
      rw [becomeIdle_eq, answerEndRun_port (by rw [endedTold_run]; exact hp), if_neg]
      exact fun e => h x.2 (by rw [hp, e])
  rw [hsame]
  exact endedTold_answers s j

end Sys2Proof.Machine
end

section
/-!
PROOFS. The report that formation is finished, and all that follows it (R56, R83, R84, R171, R180, R181).
-/

namespace Sys2Proof.Machine

section

variable (s : State)

/-- The part when GRID has reported, before the tail (R56, R180). -/
def State.tailing : State := setStage .tailing { s with grid := { s.grid with finished := true } }

/-- The part when GRID has reported, its tail is completed and its records are closed, before it becomes IDLE (R180). -/
def State.closing : State :=
  closeAllRunEnd (setStage .closing (completeTailAll s.tailing))

theorem finishRun_eq : finishRun s = becomeIdle s.closing := rfl

theorem closing_calm : Calm s s.closing :=
  ((((grid_calm s { s.grid with finished := true }).trans (setStage_calm .tailing _)).trans
    (completeTailAll_calm _)).trans (setStage_calm .closing _)).trans (closeAllRunEnd_calm _)

theorem closing_upstream :
    s.closing.run = { s.run with state := .finishing .closing } ∧
      s.closing.grid = { s.grid with finished := true } ∧ s.closing.intake = s.intake ∧ s.closing.odo = s.odo := by
  have hclose := foldl_upstream (fun t p => closeAtLast_upstream p .runEnd t) Param.all
    (setStage .closing (completeTailAll s.tailing))
  have htail := completeTailAll_upstream s.tailing
  simp only [State.upstream, Prod.mk.injEq] at hclose htail
  obtain ⟨-, hodo, hintake, hgrid, -, hrun, -⟩ := hclose
  obtain ⟨-, hodo', hintake', hgrid', -, hrun', -⟩ := htail
  refine ⟨hrun.trans ?_, hgrid.trans hgrid', hintake.trans hintake', hodo.trans hodo'⟩
  rw [setStage, hrun']; rfl

/-- What the tail and the RUN_END closes leave in the store and in the records. -/
theorem closing_store {w : Nat} {s : State} (hw : s.store.w = some w)
    (hc : s.store.c = behind (some w) s.run.settings.mMax) :
    s.closing.store.c = some w ∧ Measures s s.closing ∧
      ∀ i, i ≤ w → w < i + s.run.settings.mMax → ∃ f, EndsAt s.run.settings w i f ∧
        s.closing.store.point i = (s.store.point i).map f := by
  obtain ⟨htail, hm, hp⟩ := completeTailAll_store (s := s.tailing) hw hc
  have hclose := closeAllRunEnd_tells (setStage .closing (completeTailAll s.tailing))
  refine ⟨hclose.frontiers.2.2.trans htail, hclose.measures.after (Measures.after .of_eq (Measures.after hm .of_eq)),
    fun i hi hlt => ?_⟩
  obtain ⟨f, hf, hpf⟩ := hp i hi hlt
  exact ⟨f, hf, (hclose.point i).trans hpf⟩

theorem closing_current (p : Param) : (s.closing.exm.groups.get p).current = none := closeAllRunEnd_current _ p

theorem closing_tailDone : s.closing.geo.tailDone = true := by
  have h := closeAllRunEnd_tells (setStage .closing (completeTailAll s.tailing))
  rw [State.closing, h.frame]
  exact completeTailAll_tailDone _

end

/-- The words of a RUN ENDED notice, for a state that agrees with `s` on what they name (R178). -/
theorem runWords_ended {s t : State} {w : Nat} (hidle : t.run.state = .idle) (hnumber : t.run.number = s.run.number)
    (hrecord : t.run.record = s.run.record) (hnow : t.now = s.now) :
    runWords .ended (some w) (some w) t =
      [1#32, s.run.number.setWidth 32, 0#32] ++
        (match s.run.record with
          | some x => [wordOfNat x.direction.code, wordOfNat x.sense.code, wordOfInt x.start]
          | none => [Word.absent, Word.absent, 0#32]) ++
        [wordOfNat w, wordOfNat w, wordOfNat s.now, wordOfNat (s.now / 4294967296)] := by
  rw [runWords, hidle, hnumber, hrecord, hnow]
  cases s.run.record <;> rfl

/-- A run whose points are all formed ends: from `s`, which measures on to `u` in which GRID reports (R180, R181). -/
theorem finishRun_ends {w : Nat} {s u : State} (hm : Measures s u) (hk : Calm s u) (hrun : u.run = s.run)
    (hodo : u.odo = s.odo) (hw : u.store.w = some w) (hc : u.store.c = behind (some w) u.run.settings.mMax) :
    RunEnds w s (finishRun u) := by
  obtain ⟨hclosed, hmeasures, hpoints⟩ := closing_store hw hc
  obtain ⟨hrun', hgrid', hintake', hodo'⟩ := closing_upstream u
  have hmc : Measures s u.closing := hm.trans hmeasures
  have hkc : Calm s u.closing := hk.trans (closing_calm u)
  have hframe := becomeIdle_frame u.closing
  have hstore : (becomeIdle u.closing).store.c = u.closing.store.c ∧
      (becomeIdle u.closing).store.w = u.closing.store.w ∧
      ∀ i, (becomeIdle u.closing).store.point i = u.closing.store.point i := by
    rw [hframe]; exact ⟨rfl, rfl, fun _ => rfl⟩
  have hw' : u.closing.store.w = some w := hmeasures.w.trans hw
  have htail (i : Nat) (y : PointRec) (hi : i ≤ w) (hlt : w < i + s.run.settings.mMax)
      (hy : (becomeIdle u.closing).store.point i = some y) : ∃ f x, EndsAt s.run.settings w i f ∧ y = f x := by
    obtain ⟨f, hf, hp⟩ := hpoints i hi (hrun ▸ hlt)
    rw [hstore.2.2, hp] at hy
    obtain ⟨x, -, rfl⟩ := Option.map_eq_some_iff.mp hy
    exact ⟨f, x, hrun ▸ hf, rfl⟩
  rw [finishRun_eq]
  refine {
    run := ?_, created := hstore.2.1.trans hw', completed := hstore.1.trans hclosed, kept := fun i x hx => ?_,
    tail := fun i y hi hlt hy => ?_, level := fun i y hi hlt hy => ?_, align := fun i y hi hlt hy => ?_,
    closed := ?_, grid := ?_, geo := ?_, intake := ?_, odo := ?_, frame := ?_, streams := fun j x hx => ?_,
    told := fun j hj => ?_, answered := fun p tag hp => ?_, others := fun j hj => ?_, inbox := fun j => ?_ }
  · rw [hframe]; dsimp only; rw [hrun', hrun]
  · have h := hmc.points i
    rw [hx, Option.map_some, Option.map_eq_some_iff] at h
    obtain ⟨y, hy, ho⟩ := h
    simp only [PointRec.origin, Prod.mk.injEq] at ho
    exact ⟨y, (hstore.2.2 i).trans hy, ho⟩
  · obtain ⟨f, x, hf, rfl⟩ := htail i y hi hlt hy
    exact hf.flags x
  · have hle : s.run.settings.levelHalf ≤ s.run.settings.mMax := Nat.le_max_left _ _
    obtain ⟨f, x, hf, rfl⟩ := htail i y hi (by omega) hy
    exact hf.level hlt x
  · have hle : s.run.settings.alignHalf ≤ s.run.settings.mMax := Nat.le_max_right _ _
    obtain ⟨f, x, hf, rfl⟩ := htail i y hi (by omega) hy
    exact hf.align hlt x
  · have hexm : (becomeIdle u.closing).exm = u.closing.exm := by rw [hframe]; rfl
    rw [hexm]
    refine ⟨closing_current u, fun hinv r hr hopen => ?_⟩
    obtain ⟨o, ho, -⟩ := hmc.tracked hinv.opened r hr hopen
    cases ho.symm.trans (closing_current u r.param)
  · rw [hframe]; exact ⟨congrArg Grid.finished hgrid', rfl, rfl⟩
  · rw [hframe]; exact closing_tailDone u
  · rw [hframe]; exact ⟨rfl, hkc.units⟩
  · rw [hframe]; show { u.closing.odo with window := none } = _
    rw [hodo', hodo]
  · rw [hframe]
    exact ⟨hkc.pos, hkc.keeps.svc, hkc.keeps.now, hkc.keeps.sections, hkc.keeps.thresholds⟩
  · have h := becomeIdle_stream hx
    rw [Store.above, hclosed] at h
    exact Nat.le_of_not_lt (of_decide_eq_false h)
  · have h := becomeIdle_told (s := u.closing) ((hkc.keeps.ports j).state.trans hj)
    rwa [hw', hclosed, runWords_ended (t := { u.closing with run := { u.closing.run with state := .idle } }) rfl
      hkc.keeps.number hkc.keeps.record hkc.keeps.now] at h
  · have hpending : u.closing.run.pendingEnd = some (p, tag) := by rw [hrun', hrun]; exact hp
    obtain ⟨hin, hreplies⟩ := becomeIdle_answered hpending
    refine ⟨hin, hreplies.trans ?_⟩
    rw [(hmc.answers p).1, endRunAnswer, tailPoints, hw', hrun', hrun]; rfl
  · have hpending (tag : Byte) : u.closing.run.pendingEnd ≠ some (j, tag) := by rw [hrun', hrun]; exact hj tag
    obtain ⟨hreplies, hin⟩ := becomeIdle_others hpending
    exact ⟨hreplies.trans (hmc.answers j).1, hin.trans (hmc.answers j).2⟩
  · exact ((hkc.trans (becomeIdle_calm u.closing)).keeps.ports j).inbox

end Sys2Proof.Machine
end

section
/-!
PROOFS. The formation of a point and GRID's examination, said once: what a formation leaves, and when an examination
forms the awaited point (R39, R43 to R46, R54, R57).
-/

namespace Sys2Proof.Machine

/-! ### The formation of a point (R39, R43, R54, R81) -/

/-- The part when GRID hands the awaited point on to GEO: its counters, the next deadline, the formed frontier, the
reference time and the trim (R39, R43, R45, R54). -/
def State.handedOn (s : State) (c : CreatedPoint) (rest : List CreatedPoint) : State :=
  { s with
    grid := { s.grid.counted c (rawPointOf c s) s with
      waiting := rest, deadline := deadlineOf s.run.settings.alignWaitUs rest },
    store := { s.store with f := some c.index },
    intake := { s.intake with
      queueL := trimQueue s.intake.queueL c.crossing, queueR := trimQueue s.intake.queueR c.crossing,
      queueI := trimQueue s.intake.queueI c.crossing, refTime := some c.crossing } }

section

variable (c : CreatedPoint) (rest : List CreatedPoint) (s : State)

/-- GEO leaves GRID, INTAKE and the blocks before them as they were handed on. -/
theorem formPoint_upstream : (formPoint c rest s).upstream = (s.handedOn c rest).upstream :=
  geoRawPoint_upstream _ _

theorem formPoint_intake : (formPoint c rest s).intake = (s.handedOn c rest).intake :=
  congrArg (fun x => x.2.2.1) (formPoint_upstream c rest s)

theorem formPoint_grid : (formPoint c rest s).grid = (s.handedOn c rest).grid :=
  congrArg (fun x => x.2.2.2.1) (formPoint_upstream c rest s)

@[simp] theorem formPoint_now : (formPoint c rest s).now = s.now :=
  congrArg (fun x => x.1) (formPoint_upstream c rest s)

@[simp] theorem formPoint_odo : (formPoint c rest s).odo = s.odo :=
  congrArg (fun x => x.2.1) (formPoint_upstream c rest s)

@[simp] theorem formPoint_pos : (formPoint c rest s).pos = s.pos :=
  congrArg (fun x => x.2.2.2.2.1) (formPoint_upstream c rest s)

@[simp] theorem formPoint_run : (formPoint c rest s).run = s.run :=
  congrArg (fun x => x.2.2.2.2.2.1) (formPoint_upstream c rest s)

@[simp] theorem formPoint_svc : (formPoint c rest s).svc = s.svc :=
  congrArg (fun x => x.2.2.2.2.2.2.1) (formPoint_upstream c rest s)

@[simp] theorem formPoint_unit (d : Source) : (formPoint c rest s).unit d = s.unit d := by
  rw [State.unit, formPoint_intake]; rfl

@[simp] theorem formPoint_refTime : (formPoint c rest s).intake.refTime = some c.crossing := by
  rw [formPoint_intake]; rfl

@[simp] theorem formPoint_waiting : (formPoint c rest s).grid.waiting = rest := (formPoint_wait c rest s).1

@[simp] theorem formPoint_deadline :
    (formPoint c rest s).grid.deadline = deadlineOf s.run.settings.alignWaitUs rest := (formPoint_wait c rest s).2.1

theorem formPoint_measures : Measures (s.handedOn c rest) (formPoint c rest s) := (geoRawPoint_store _ _).1

@[simp] theorem formPoint_f : (formPoint c rest s).store.f = some c.index := (formPoint_measures c rest s).f

@[simp] theorem formPoint_w : (formPoint c rest s).store.w = s.store.w := (formPoint_measures c rest s).w

/-- C follows F at m_max points behind it (R81). -/
theorem formPoint_c : (formPoint c rest s).store.c =
    if c.index < s.run.settings.mMax then s.store.c else some (c.index - s.run.settings.mMax) :=
  (geoRawPoint_store (rawPointOf c s) (s.handedOn c rest)).2

end

/-! ### Trimming keeps what is later (R39) -/

section

variable {α : Type} {q : List (Entry α)} {t u : Nat}

/-- A trim takes no entry later than its time. -/
theorem mem_trimQueue {e : Entry α} (he : t < e.stamp) : e ∈ trimQueue q t ↔ e ∈ q := by
  unfold trimQueue
  split
  · next a ha =>
    have hle : a.stamp ≤ e.stamp := (lowerBracket_mem ha).2.trans he.le
    simp [hle]
  · rfl

/-- The newest entry of a queue, when it is later than the time of a trim, stays the newest. -/
theorem trimQueue_append_singleton {e : Entry α} (he : t < e.stamp) :
    (trimQueue (q ++ [e]) t).getLast? = some e := by
  unfold trimQueue
  split
  · next a ha =>
    have hle : a.stamp ≤ e.stamp := (lowerBracket_mem ha).2.trans he.le
    simp [hle]
  · simp

end

/-! ### Satisfaction (R44) -/

/-- A queued source is satisfied by itself by a later sample or by not being LIVE (R44). -/
theorem hasLater_or_notLive {α : Type} {q : List (Entry α)} {t : Nat} {u : SourceUnit} :
    (hasLater q t || u.notLive) = true ↔ u.state ≠ .live ∨ ∃ e ∈ q, t < e.stamp := by
  simp [hasLater, SourceUnit.notLive, or_comm]

theorem ready_headL {s : State} {t : Nat} :
    s.Ready .headL t ↔ (s.unit .headL).state ≠ .live ∨ ∃ e ∈ s.intake.queueL, t < e.stamp := by
  simp [State.Ready]

theorem ready_headR {s : State} {t : Nat} :
    s.Ready .headR t ↔ (s.unit .headR).state ≠ .live ∨ ∃ e ∈ s.intake.queueR, t < e.stamp := by
  simp [State.Ready]

theorem ready_inertial {s : State} {t : Nat} :
    s.Ready .inertial t ↔ (s.unit .inertial).state ≠ .live ∨ ∃ e ∈ s.intake.queueI, t < e.stamp := by
  simp [State.Ready]

theorem ready_marker (s : State) (t : Nat) : s.Ready .marker t := .inl rfl

/-- All three sources are satisfied at the deadline, or each by itself (R44, R46). -/
theorem satisfied_all_iff {s : State} {t : Nat} :
    (satisfied s t).all = true ↔ deadlineReached s = true ∨ ∀ c, s.Ready c t := by
  have hall : (∀ c, s.Ready c t) ↔ s.Ready .headL t ∧ s.Ready .headR t ∧ s.Ready .inertial t :=
    ⟨fun h => ⟨h _, h _, h _⟩, fun ⟨hl, hr, hi⟩ c => match c with
      | .headL => hl
      | .headR => hr
      | .inertial => hi
      | .marker => ready_marker s t⟩
  have hall' : (∀ c, s.Ready c t) ↔ (satisfiedBySelf s t).headL = true ∧ (satisfiedBySelf s t).headR = true ∧
      (satisfiedBySelf s t).inertial = true := by
    rw [hall, ready_headL, ready_headR, ready_inertial]
    exact and_congr hasLater_or_notLive.symm (and_congr hasLater_or_notLive.symm hasLater_or_notLive.symm)
  rw [hall']
  cases h : deadlineReached s <;> simp [satisfied, PerQueued.all, h, and_assoc]

/-! ### Examination (R46, R57) -/

section

variable {s : State} {c : CreatedPoint} {rest : List CreatedPoint}

theorem examine_of_idle (h : s.run.state = .idle) : examine s = s := if_pos h

theorem examine_of_none (h : s.run.state = .running) (hw : s.grid.waiting = []) : examine s = s := by
  unfold examine finishTest
  rw [hw, List.length_nil, formWhile, h, if_neg (by decide), if_neg (by simp)]

/-- An awaited point that is not satisfied waits on (R46). -/
theorem examine_of_not_satisfied (hw : s.grid.waiting = c :: rest) (h : ¬(satisfied s c.crossing).all = true) :
    examine s = s := by
  have hform : formWhile s.grid.waiting.length s = s := by
    rw [hw, List.length_cons, formWhile, hw]; exact if_neg h
  unfold examine finishTest
  rw [hform, hw]
  simp

/-- A satisfied awaited point is formed, and the next is examined (R43, R46). -/
theorem examine_of_satisfied (hr : s.run.state ≠ .idle) (hw : s.grid.waiting = c :: rest)
    (h : (satisfied s c.crossing).all = true) : examine s = examine (formPoint c rest s) := by
  have hform : formWhile s.grid.waiting.length s = formWhile rest.length (formPoint c rest s) := by
    rw [hw, List.length_cons, formWhile, hw]; exact if_pos h
  unfold examine
  rw [hform, formPoint_waiting, formPoint_run, if_neg hr, if_neg hr]

/-- In RUNNING, the only awaited point is formed when it is satisfied (R46). -/
theorem examine_forms_last (hr : s.run.state = .running) (hw : s.grid.waiting = [c])
    (h : (satisfied s c.crossing).all = true) : examine s = formPoint c [] s := by
  rw [examine_of_satisfied (by rw [hr]; decide) hw h]
  exact examine_of_none (by rw [formPoint_run]; exact hr) (formPoint_waiting c [] s)

/-- A source that is not satisfied before the deadline holds the awaited point up (R44, R46). -/
theorem examine_of_held_up (hw : s.grid.waiting = c :: rest) (hd : ∀ d, s.grid.deadline = some d → s.now < d)
    {x : Source} (hx : ¬s.Ready x c.crossing) : examine s = s := by
  refine examine_of_not_satisfied hw fun h => ?_
  rcases satisfied_all_iff.mp h with h | h
  · obtain ⟨d, he, hle⟩ := deadlineReached_iff.mp h
    exact Nat.not_le.mpr (hd d he) hle
  · exact hx (h x)

end

/-! ### What an examination looks at but for one source -/

/-- Two parts that an examination cannot tell apart but by one source. -/
structure SameBut (c : Source) (s t : State) : Prop where
  now : t.now = s.now
  run : t.run = s.run
  grid : t.grid = s.grid
  units : ∀ d, d ≠ c → t.unit d = s.unit d
  queueL : c ≠ .headL → t.intake.queueL = s.intake.queueL
  queueR : c ≠ .headR → t.intake.queueR = s.intake.queueR
  queueI : c ≠ .inertial → t.intake.queueI = s.intake.queueI

section

variable {c d : Source} {s t u : State}

theorem SameBut.trans (h : SameBut c s t) (k : SameBut c t u) : SameBut c s u :=
  ⟨k.now.trans h.now, k.run.trans h.run, k.grid.trans h.grid, fun d hd => (k.units d hd).trans (h.units d hd),
    fun hc => (k.queueL hc).trans (h.queueL hc), fun hc => (k.queueR hc).trans (h.queueR hc),
    fun hc => (k.queueI hc).trans (h.queueI hc)⟩

theorem SameBut.ready (h : SameBut c s t) (hd : d ≠ c) (x : Nat) : t.Ready d x ↔ s.Ready d x := by
  cases d with
  | headL => rw [ready_headL, ready_headL, h.units _ hd, h.queueL hd.symm]
  | headR => rw [ready_headR, ready_headR, h.units _ hd, h.queueR hd.symm]
  | inertial => rw [ready_inertial, ready_inertial, h.units _ hd, h.queueI hd.symm]
  | marker => exact iff_of_true (ready_marker t x) (ready_marker s x)

/-- Where nothing is formed whatever becomes of a source, nothing is formed after its change. -/
theorem SameBut.formsNothing (h : SameBut c s t) (hn : s.FormsNothing c) : t.FormsNothing c := by
  refine hn.imp (fun k => by rw [h.run]; exact k) (Or.imp (fun k => by rw [h.run, h.grid]; exact k) ?_)
  rintro ⟨x, more, hw, hd, d, hdc, hx⟩
  exact ⟨x, more, by rw [h.grid]; exact hw, fun e he => by rw [h.now]; exact hd e (by rw [← h.grid]; exact he), d, hdc,
    fun k => hx ((h.ready hdc _).mp k)⟩

theorem examine_of_formsNothing (h : s.FormsNothing c) : examine s = s := by
  rcases h with hidle | ⟨hr, hw⟩ | ⟨x, more, hw, hd, d, -, hx⟩
  · exact examine_of_idle hidle
  · exact examine_of_none hr hw
  · exact examine_of_held_up hw hd hx

theorem updateUnit_sameBut (c : Source) (f : SourceUnit → SourceUnit) (s : State) : SameBut c s (updateUnit c f s) :=
  ⟨rfl, rfl, rfl, fun _ hd => updateUnit_unit_of_ne f s hd, fun _ => rfl, fun _ => rfl, fun _ => rfl⟩

theorem offerAll_sameBut (c : Source) (sel : Port → Bool) (cls : NoticeClass) (w : List Word) (s : State) :
    SameBut c s (offerAll sel cls w s) :=
  ⟨rfl, rfl, rfl, fun _ _ => rfl, fun _ => rfl, fun _ => rfl, fun _ => rfl⟩

end

end Sys2Proof.Machine
end

section
/-!
PROOFS. The states of the sources: link reports and stale deadlines, and the point that a stale source lets form (R24,
R27 to R29, R44, R46).
-/

namespace Sys2Proof.Machine

/-- Nothing comes of telling GRID of MARKER, or where an examination changes nothing (R46). -/
theorem tellGrid_eq {c : Source} {s : State} (h : c = .marker ∨ examine s = s) : tellGrid c s = s := by
  unfold tellGrid
  rcases h with rfl | h
  · rfl
  · rw [h, ite_self]

theorem tellGrid_queued {c : Source} (h : c ≠ .marker) (s : State) : tellGrid c s = examine s := by
  cases c with
  | marker => exact absurd rfl h
  | inertial | headL | headR => rfl

/-- The part with a source STALE and no stale deadline, and its notice queued (R27, R29). -/
def State.staled (s : State) (c : Source) : State :=
  offerAll wantsSource .source [wordOfNat c.code, 1#32, 2#32, wordOfNat s.now]
    (updateUnit c (fun u => { u with state := .stale, deadline := none }) s)

section

variable {c : Source} {s : State}

theorem staled_sameBut (c : Source) (s : State) : SameBut c s (s.staled c) :=
  (updateUnit_sameBut c _ s).trans (offerAll_sameBut c _ _ _ _)

theorem staled_unit (c : Source) (s : State) :
    (s.staled c).unit c = { s.unit c with state := .stale, deadline := none } :=
  updateUnit_unit c (fun u => { u with state := .stale, deadline := none }) s

/-- A source that has changed and becomes STALE has changed once. -/
theorem staled_updateUnit (c : Source) (f : SourceUnit → SourceUnit) (s : State) :
    (updateUnit c f s).staled c =
      offerAll wantsSource .source [wordOfNat c.code, 1#32, 2#32, wordOfNat s.now]
        (updateUnit c (fun _ => { f (s.unit c) with state := .stale, deadline := none }) s) := by
  rw [State.staled, updateUnit_updateUnit]
  exact congrArg _ (updateUnit_congr rfl)

theorem loseLiveness_of_live (h : (s.unit c).state = .live) : loseLiveness c s = tellGrid c (s.staled c) := by
  have hs : ((updateUnit c (fun u => { u with deadline := none }) s).unit c).state = .live := by
    rw [updateUnit_unit]; exact h
  rw [loseLiveness, if_pos h, changeSource, sourceNotice, hs, updateUnit_updateUnit]
  rfl

theorem loseLiveness_of_not_live (h : (s.unit c).state ≠ .live) : loseLiveness c s = s := if_neg h

/-- A source that becomes STALE where nothing is formed. -/
theorem loseLiveness_quiet (h : (s.unit c).state = .live) (hq : c = .marker ∨ s.FormsNothing c) :
    loseLiveness c s = s.staled c := by
  rw [loseLiveness_of_live h]
  exact tellGrid_eq (hq.imp_right fun k => examine_of_formsNothing ((staled_sameBut c s).formsNothing k))

/-- A source that becomes STALE where it alone held up the only awaited point (R44, R46). -/
theorem loseLiveness_forms {x : CreatedPoint} (h : (s.unit c).state = .live) (hc : c ≠ .marker)
    (hr : s.run.state = .running) (hw : s.grid.waiting = [x]) (hready : ∀ d, d ≠ c → s.Ready d x.crossing) :
    loseLiveness c s = formPoint x [] (s.staled c) := by
  have hsame := staled_sameBut c s
  rw [loseLiveness_of_live h, tellGrid_queued hc]
  refine examine_forms_last (by rw [hsame.run]; exact hr) (by rw [hsame.grid]; exact hw)
    (satisfied_all_iff.mpr (.inr fun d => ?_))
  by_cases hd : d = c
  · subst hd
    exact .inr (.inl (by rw [staled_unit]; simp))
  · exact (hsame.ready hd _).mpr (hready d hd)

/-- The deadline of a LIVE source that the count has reached (R27). -/
theorem staleDeadline_of_reached {d : Nat} (hd : (s.unit c).deadline = some d) (hle : d ≤ s.now) :
    staleDeadline c s = loseLiveness c s := by
  unfold staleDeadline; rw [hd]; exact if_pos hle

end

/-- The change of a unit by a link-down report (R24, R28). -/
def SourceUnit.linkLost (u : SourceUnit) : SourceUnit :=
  { u with linkUp := false, linkLosses := min 65535 (u.linkLosses + 1) }

theorem sensorLinkDown_eq (c : Source) (s : State) :
    sensorLinkDown c s = loseLiveness c (updateUnit c SourceUnit.linkLost s) := by
  unfold sensorLinkDown SourceUnit.linkLost
  simp only [inc16_eq]

/-- What the loss of liveness of a changed source leaves, where it forms the only awaited point (R44, R46). -/
theorem loseLiveness_formed {c : Source} {s : State} {x : CreatedPoint} {f : SourceUnit → SourceUnit}
    (hf : (f (s.unit c)).state = .live) (hc : c ≠ .marker) (hr : s.run.state = .running) (hw : s.grid.waiting = [x])
    (hready : ∀ d, d ≠ c → s.Ready d x.crossing) :
    let t := loseLiveness c (updateUnit c f s)
    t.unit c = { f (s.unit c) with state := .stale, deadline := none } ∧ (∀ d, d ≠ c → t.unit d = s.unit d) ∧
      t.grid.waiting = [] ∧ t.grid.deadline = none ∧ t.store.f = some x.index ∧
      t.intake.refTime = some x.crossing ∧ t.odo = s.odo ∧ t.pos = s.pos ∧ t.svc = s.svc := by
  have hsame := updateUnit_sameBut c f s
  have heq : loseLiveness c (updateUnit c f s) = formPoint x [] ((updateUnit c f s).staled c) :=
    loseLiveness_forms (by rw [updateUnit_unit]; exact hf) hc hr hw fun d hd => (hsame.ready hd _).mpr (hready d hd)
  rw [heq]
  refine ⟨?_, fun d hd => ?_, formPoint_waiting _ _ _, formPoint_deadline _ _ _, formPoint_f _ _ _,
    formPoint_refTime _ _ _, formPoint_odo _ _ _, formPoint_pos _ _ _, formPoint_svc _ _ _⟩
  · rw [formPoint_unit, staled_unit, updateUnit_unit]
  · rw [formPoint_unit, (staled_sameBut c _).units d hd, hsame.units d hd]

/-- Settles O18: a report and a deadline lead to one loss of liveness, which forms nothing by `loseLiveness_quiet`, and
the only awaited point by `loseLiveness_formed`. -/
theorem sourcesGoStale : Obligations.SourcesGoStale := by
  intro c s u stale v quiet
  have hstaled : (updateUnit c SourceUnit.linkLost s).staled c = stale v := staled_updateUnit c _ s
  have hself : updateUnit c id s = s := updateUnit_self rfl
  have hstaled' : s.staled c = stale u := by
    have h := staled_updateUnit c id s
    rwa [hself] at h
  refine ⟨rfl, fun h => congrArg Host.Outcome.next ?_, fun h hq => congrArg Host.Outcome.next ?_,
    fun d h hd hle hq => congrArg Host.Outcome.next ?_, ?_⟩
  · rw [sensorLinkDown_eq, loseLiveness_of_not_live (by rw [updateUnit_unit]; exact h)]
    exact updateUnit_congr rfl
  · rw [sensorLinkDown_eq, loseLiveness_quiet (by rw [updateUnit_unit]; exact h)
      (hq.imp_right (updateUnit_sameBut c _ s).formsNothing), hstaled]
  · rw [staleDeadline_of_reached hd hle, loseLiveness_quiet h hq, hstaled']
  · rintro x i v' h hc hr hw hready (⟨rfl, rfl⟩ | ⟨rfl, rfl, d, hd, hle⟩)
    · exact ⟨_, congrArg Host.Outcome.next (sensorLinkDown_eq c s),
        loseLiveness_formed (f := SourceUnit.linkLost) h hc hr hw hready⟩
    · refine ⟨_, congrArg Host.Outcome.next (staleDeadline_of_reached hd hle), ?_⟩
      have k := loseLiveness_formed (f := id) h hc hr hw hready
      rwa [hself] at k

end Sys2Proof.Machine
end

section
/-!
PROOFS. The alignment deadline: GRID's counts of a point formed at its deadline, the points behind it, and the last point
of a run (R44 to R46, R52, R56, R59).
-/

namespace Sys2Proof.Machine

/-! ### The counts of a source (R48, R52, R59) -/

section

variable {α : Type} {q : List (Entry α)} {t count holdLimit : Nat}

theorem statusBefore_good (hl : ∃ e ∈ q, e.stamp ≤ t) (hu : ∃ e ∈ q, t < e.stamp) : statusBefore q t = .good := by
  obtain ⟨a, ha⟩ := Option.isSome_iff_exists.mp (lowerBracket_isSome.mpr hl)
  obtain ⟨b, hb⟩ := Option.isSome_iff_exists.mp (upperBracket_isSome.mpr hu)
  rw [statusBefore, ha, hb]

theorem statusBefore_held (hne : q ≠ []) (h : (∀ e ∈ q, e.stamp ≤ t) ∨ ∀ e ∈ q, t < e.stamp) :
    statusBefore q t = .held := by
  obtain ⟨d, hd⟩ := List.exists_mem_of_ne_nil q hne
  rcases h with h | h
  · obtain ⟨a, ha⟩ := Option.isSome_iff_exists.mp (lowerBracket_isSome.mpr ⟨d, hd, h d hd⟩)
    rw [statusBefore, ha, upperBracket_of_early h]
  · obtain ⟨b, hb⟩ := Option.isSome_iff_exists.mp (upperBracket_isSome.mpr ⟨d, hd, h d hd⟩)
    rw [statusBefore, hb, lowerBracket_of_later h]

/-- The status of a source at a point follows from the one before the hold limit (R48, R52). -/
theorem readSource_status (between : α → α → Nat → Nat → Nat → α) (zero : α) :
    (readSource between zero q t count holdLimit).status =
      if statusBefore q t = .held ∧ holdLimit < min 65535 (count + 1) then .void else statusBefore q t := by
  have hr : (readBrackets between zero (lowerBracket q t) (upperBracket q t) t).status = statusBefore q t := by
    unfold statusBefore
    cases lowerBracket q t <;> cases upperBracket q t <;> rfl
  rw [readSource]
  by_cases h : statusBefore q t = .held
  · rw [applyHoldLimit_of_held (hr.trans h), h]
    split
    · next k => rw [if_pos ⟨rfl, k⟩]
    · next k => rw [if_neg fun x => k x.2, hr, h]
  · rw [applyHoldLimit_of_ne_held (by rw [hr]; exact h), hr, if_neg fun x => h x.1]

/-- GRID counts a source at a point formed at its deadline (R52, R59). -/
theorem formed_counted (between : α → α → Nat → Nat → Nat → α) (zero : α) (u : GridSource) (x : SourceUnit) :
    CountedAtDeadline q (decide (x.state = .live)) t holdLimit u
      (u.formed (statusBefore q t) (readSource between zero q t u.holdCount holdLimit).status
        (!(hasLater q t || x.notLive))) := by
  have hlate : (!(hasLater q t || x.notLive)) = (decide (x.state = .live) && decide (∀ e ∈ q, e.stamp ≤ t)) := by
    rw [Bool.eq_iff_iff, Bool.not_eq_true', Bool.eq_false_iff, Ne, hasLater_or_notLive]
    simp only [not_or, not_not, not_exists, not_and, Nat.not_lt, Bool.and_eq_true, decide_eq_true_eq]
  refine ⟨fun hl hu => ?_, fun h => ⟨fun ⟨hne, hcount⟩ => ?_, fun hvoid => ?_⟩⟩
  · have hlater : hasLater q t = true := by simpa [hasLater] using hu
    rw [readSource_status, statusBefore_good hl hu, hlater]
    simp [GridSource.formed, holdCountAfter]
  · rw [readSource_status, statusBefore_held hne h, hlate, if_neg fun k => Nat.not_lt.mpr hcount k.2]
    simp [GridSource.formed, holdCountAfter, inc16_eq]
  · have hstatus : statusBefore q t ≠ .good ∧ (readSource between zero q t u.holdCount holdLimit).status = .void := by
      by_cases hq : q = []
      · subst hq
        rw [readSource_status, show statusBefore ([] : List (Entry α)) t = .void from rfl]
        exact ⟨by decide, rfl⟩
      · rw [readSource_status, statusBefore_held hq h, if_pos ⟨rfl, hvoid.resolve_left hq⟩]
        exact ⟨by decide, rfl⟩
    rw [hstatus.2, hlate]
    simp [GridSource.formed, holdCountAfter, inc16_eq, hstatus.1]

/-- What a source reads at a time from a queue in stamp order has one clamp mark (R53). -/
theorem ReadsAt.clamp_eq {channels : List (α → Int)} {zero : α} {r r' : SourceRead α}
    (hq : q.Pairwise fun a b => a.stamp < b.stamp) (h : ReadsAt channels zero q t count holdLimit r)
    (h' : ReadsAt channels zero q t count holdLimit r') : r.clamp = r'.clamp := by
  rcases brackets_cases q t hq with hnil | ⟨front, a, b, back, hsplit, ha, hb⟩ | ⟨e, he⟩
  · rw [h.empty hnil, h'.empty hnil]
  · rw [(h.between front a b back hsplit ha hb).2.1, (h'.between front a b back hsplit ha hb).2.1]
  · rcases Nat.lt_or_ge holdLimit (min 65535 (count + 1)) with hlt | hle
    · rw [(h.held e he).2 hlt, (h'.held e he).2 hlt]
    · rw [(h.held e he).1 hle, (h'.held e he).1 hle]

end

/-! ### The points behind a formed one (R39, R44) -/

/-- The trim of a formed point takes no sample that a later point waits for (R39, R44). -/
theorem formPoint_ready {c : CreatedPoint} {t : Nat} (rest : List CreatedPoint) (s : State) (h : c.crossing ≤ t)
    (x : Source) : (formPoint c rest s).Ready x t ↔ s.Ready x t := by
  have hq {α : Type} (q : List (Entry α)) : (∃ e ∈ trimQueue q c.crossing, t < e.stamp) ↔ ∃ e ∈ q, t < e.stamp :=
    exists_congr fun e => and_congr_left fun he => mem_trimQueue (h.trans_lt he)
  have hi := formPoint_intake c rest s
  cases x with
  | headL => rw [ready_headL, ready_headL, formPoint_unit, hi]; exact or_congr_right (hq _)
  | headR => rw [ready_headR, ready_headR, formPoint_unit, hi]; exact or_congr_right (hq _)
  | inertial => rw [ready_inertial, ready_inertial, formPoint_unit, hi]; exact or_congr_right (hq _)
  | marker => exact iff_of_true (ready_marker _ t) (ready_marker s t)

/-! ### The last point of a run (R56, R180) -/

/-- In FINISHING, an examination that finds no created point unformed ends the run (R56). -/
theorem examine_finishes {s : State} (h : s.run.state = .finishing .forming) (hw : s.grid.waiting = []) :
    examine s = finishRun s := by
  unfold examine finishTest
  rw [hw, List.length_nil, formWhile, h, if_neg (by decide), if_pos ⟨rfl, hw⟩]

/-- The formation of the last point ends the run (R56, R83, R171, R180, R181). -/
theorem finishRun_formPoint {c : CreatedPoint} {s : State} (hw : s.store.w = some c.index)
    (hf : s.store.f = if c.index = 0 then none else some (c.index - 1))
    (hc : s.store.c = behind s.store.f s.run.settings.mMax) :
    RunEnds c.index s (finishRun (formPoint c [] s)) ∧ (finishRun (formPoint c [] s)).store.f = some c.index := by
  have hbehind : (formPoint c [] s).store.c = behind (some c.index) (formPoint c [] s).run.settings.mMax := by
    rw [formPoint_c, formPoint_run, hc, hf]
    by_cases hlt : c.index < s.run.settings.mMax
    · by_cases h0 : c.index = 0
      · simp [behind, h0, h0 ▸ hlt]
      · have hlt' : c.index - 1 < s.run.settings.mMax := by omega
        simp [behind, hlt, h0, hlt']
    · simp [behind, hlt]
  have hcalm : Calm (s.handedOn c []) (formPoint c [] s) := geoRawPoint_calm _ _
  have hw' : (formPoint c [] s).store.w = some c.index := by rw [formPoint_w]; exact hw
  have h : RunEnds c.index (s.handedOn c []) (finishRun (formPoint c [] s)) :=
    finishRun_ends (formPoint_measures c [] s) hcalm (formPoint_run c [] s) (formPoint_odo c [] s) hw' hbehind
  refine ⟨⟨h.run, h.created, h.completed, h.kept, h.tail, h.level, h.align, h.closed, h.grid, h.geo, h.intake, h.odo,
    h.frame, h.streams, h.told, h.answered, h.others, h.inbox⟩, ?_⟩
  rw [finishRun_eq, becomeIdle_frame]
  exact (closing_store hw' hbehind).2.1.f.trans (formPoint_f c [] s)

/-! ### The statement -/

theorem alignDeadline_of_reached {s : State} {d : Nat} (hd : s.grid.deadline = some d) (hle : d ≤ s.now) :
    alignDeadline s = examine s := if_pos (deadlineReached_iff.mpr ⟨d, hd, hle⟩)

theorem satisfied_at_deadline {s : State} {d : Nat} (hd : s.grid.deadline = some d) (hle : d ≤ s.now) (t : Nat) :
    (satisfied s t).all = true := satisfied_of_reached (deadlineReached_iff.mpr ⟨d, hd, hle⟩) t

/-- Settles O20: an examination at the deadline is a formation and an examination (`examine_of_satisfied`); in RUNNING
the last examination finds no point (`examine_forms_last`) or one held up (`examine_of_held_up`), and in FINISHING it ends
the run (`finishRun_formPoint`). -/
theorem alignDeadlineFormsThePoint : Obligations.AlignDeadlineFormsThePoint := by
  refine ⟨?_, ?_, ?_, ?_, fun s hr hw => examine_of_none hr hw, ?_⟩
  · intro c d s hr hw hd hle
    have hreached : deadlineReached s = true := deadlineReached_iff.mpr ⟨d, hd, hle⟩
    have heq : alignDeadline s = formPoint c [] s :=
      (alignDeadline_of_reached hd hle).trans (examine_forms_last hr hw (satisfied_at_deadline hd hle _))
    have hcalm := formPoint_calm c [] s
    have hgrid := formPoint_grid c [] s
    have hunits : (formPoint c [] s).grid.units = (s.grid.counted c (rawPointOf c s) s).units := by rw [hgrid]; rfl
    refine ⟨formPoint c [] s, congrArg Host.Outcome.next heq, formPoint_f c [] s, formPoint_w c [] s,
      formPoint_waiting c [] s, formPoint_deadline c [] s, by rw [hgrid]; rfl, formPoint_refTime c [] s, ?_, ?_, ?_, ?_,
      ?_, ?_, ?_, formPoint_c c [] s, formPoint_odo c [] s, formPoint_pos c [] s, hcalm.units, formPoint_run c [] s,
      hcalm.keeps.sections, hcalm.keeps.thresholds, formPoint_svc c [] s⟩
    · rw [formPoint_intake]; exact trimQueue_trimmedAt _ _
    · rw [formPoint_intake]; exact trimQueue_trimmedAt _ _
    · rw [formPoint_intake]; exact trimQueue_trimmedAt _ _
    · rw [hunits]; simp only [Grid.counted, hreached, Bool.true_and]; exact formed_counted _ _ _ _
    · rw [hunits]; simp only [Grid.counted, hreached, Bool.true_and]; exact formed_counted _ _ _ _
    · rw [hunits]; simp only [Grid.counted, hreached, Bool.true_and]; exact formed_counted _ _ _ _
    · intro r hread hq
      have hclamp := hread.clamp_eq hq (sourceReadFollowsItsBrackets.1 _ _ _ _ hq)
      rw [hgrid, hclamp, ← inc16_eq]
      rfl
  · intro c d s hr hw hd hle hwlast hf hc
    obtain ⟨hends, hf'⟩ := finishRun_formPoint hwlast hf hc
    refine ⟨_, congrArg Host.Outcome.next ((alignDeadline_of_reached hd hle).trans ?_), hends, hf'⟩
    rw [examine_of_satisfied (by rw [hr]; decide) hw (satisfied_at_deadline hd hle _)]
    exact examine_finishes (by rw [formPoint_run]; exact hr) (formPoint_waiting c [] s)
  · intro c c' more d s hr hw hd hle hcross d'
    have hform : alignDeadline s = examine (formPoint c (c' :: more) s) :=
      (alignDeadline_of_reached hd hle).trans
        (examine_of_satisfied (by rw [hr]; decide) hw (satisfied_at_deadline hd hle _))
    have hdeadline : (formPoint c (c' :: more) s).grid.deadline = some d' := formPoint_deadline _ _ _
    refine ⟨_, congrArg Host.Outcome.next hform, fun hlt ⟨x, hx⟩ => ?_, fun hsat hmore => ?_⟩
    · rw [examine_of_held_up (formPoint_waiting _ _ _) (x := x)]
      · exact ⟨formPoint_f _ _ _, formPoint_waiting _ _ _, hdeadline, formPoint_refTime _ _ _⟩
      · intro e he
        rw [hdeadline] at he
        rw [formPoint_now]
        exact Option.some.inj he ▸ hlt
      · rw [formPoint_ready _ _ hcross]; exact hx
    · subst hmore
      rw [examine_forms_last (by rw [formPoint_run]; exact hr) (formPoint_waiting _ _ _) (satisfied_all_iff.mpr ?_)]
      · exact ⟨formPoint_f _ _ _, formPoint_waiting _ _ _, formPoint_deadline _ _ _, formPoint_refTime _ _ _⟩
      · refine hsat.imp (fun h => deadlineReached_iff.mpr ⟨d', hdeadline, ?_⟩) fun h x => ?_
        · rw [formPoint_now]; exact h
        · rw [formPoint_ready _ _ hcross]; exact h x
  · rintro s ⟨d, hd, hle⟩
    exact congrArg Host.Outcome.next (alignDeadline_of_reached hd hle)
  · intro c rest s hr hw
    have hiff := (satisfied_all_iff (s := s) (t := c.crossing)).trans (or_congr_left deadlineReached_iff)
    exact ⟨fun h => examine_of_not_satisfied hw fun k => h (hiff.mp k),
      fun h => examine_of_satisfied hr hw (hiff.mpr h), formPoint_f c rest s, formPoint_waiting c rest s,
      formPoint_deadline c rest s, formPoint_refTime c rest s, (formPoint_calm c rest s).units, formPoint_run c rest s,
      formPoint_now c rest s⟩

end Sys2Proof.Machine
end

section
/-!
PROOFS. The way of a valid sensor frame: liveness, tracking, stamping and the entry into a queue (R27, R29 to R38), and
what GRID's examination then does (R44, R46).
-/

namespace Sys2Proof.Machine

/-! ### The notice of a change to LIVE (R29) -/

section

variable (c d : Source) (b : SourceState) (s : State)

/-- The notice touches the ports alone. -/
theorem tellLive_frame : tellLive c b s = { s with ports := (tellLive c b s).ports } := by
  unfold tellLive; split <;> rfl

@[simp] theorem tellLive_now : (tellLive c b s).now = s.now := by rw [tellLive_frame]

@[simp] theorem tellLive_run : (tellLive c b s).run = s.run := by rw [tellLive_frame]

@[simp] theorem tellLive_intake : (tellLive c b s).intake = s.intake := by rw [tellLive_frame]

@[simp] theorem tellLive_unit : (tellLive c b s).unit d = s.unit d := by rw [State.unit, tellLive_intake]; rfl

theorem tellLive_of_live : tellLive c .live s = s := by simp [tellLive]

theorem tellLive_sameBut : SameBut d s (tellLive c b s) := by
  rw [tellLive_frame]
  exact ⟨rfl, rfl, rfl, fun _ _ => rfl, fun _ => rfl, fun _ => rfl, fun _ => rfl⟩

theorem tellLive_ready (t : Nat) : (tellLive c b s).Ready d t ↔ s.Ready d t := by
  rw [State.Ready, State.Ready, tellLive_unit, tellLive_intake]

theorem updateUnit_tellLive (f : SourceUnit → SourceUnit) :
    updateUnit d f (tellLive c b s) = tellLive c b (updateUnit d f s) := by
  unfold tellLive; split <;> rfl

end

/-! ### Liveness and tracking (R27, R29, R30) -/

/-- A valid frame makes its source LIVE with a new stale deadline, and tells of the change (R27, R29). -/
theorem refreshLiveness_eq (c : Source) (s : State) :
    refreshLiveness c s = tellLive c (s.unit c).state (updateUnit c (fun u => { u with
      state := .live, deadline := some (s.now + s.run.settings.staleMs * 1000) }) s) := by
  unfold refreshLiveness; dsimp only
  cases h : (s.unit c).state with
  | live =>
    rw [if_pos rfl, tellLive_of_live]
    exact updateUnit_congr (by rw [← h])
  | absent =>
    rw [if_neg (by decide), changeSource, updateUnit_unit, h, updateUnit_updateUnit]
    rfl
  | stale =>
    rw [if_neg (by decide), changeSource, updateUnit_unit, h, updateUnit_updateUnit]
    rfl

/-- The part with a valid frame of a source received: header, liveness, sequence (R25, R27, R30). -/
def State.heard (s : State) (c : Source) (k : Bool) (seq : Nat) : State :=
  updateUnit c (·.received k (s.now + s.run.settings.staleMs * 1000) seq) s

theorem heard_eq (c : Source) (k : Bool) (seq : Nat) (s : State) :
    updateUnit c (·.track seq) (refreshLiveness c (updateUnit c (·.withHeader k) s)) =
      tellLive c (s.unit c).state (s.heard c k seq) := by
  rw [refreshLiveness_eq, updateUnit_tellLive, updateUnit_updateUnit, updateUnit_updateUnit, updateUnit_unit]
  refine congrArg _ (updateUnit_congr ?_)
  unfold SourceUnit.track SourceUnit.received SourceUnit.withHeader
  simp only [addSat16_eq]
  rfl

/-- A frame that reaches a source's receiver on its link, and that R25 and R26 find valid. -/
structure ValidFrame (c : Source) (bytes : List Byte) (k : Bool) (f : RxFrame) (s : State) : Prop where
  up : (s.unit c).linkUp = true
  received : receive bytes = { corrected := k, result := .ok f }
  kind : f.kind = c.frameKind
  words : f.payload.length = c.frameWords

section

variable {c : Source} {bytes : List Byte} {k : Bool} {f : RxFrame} {s : State}

/-- A valid frame: its sample is taken, and GRID is told of a change to LIVE (R27, R46, R47). -/
theorem sensorFrame_valid (h : ValidFrame c bytes k f s) :
    sensorFrame c bytes s =
      let t := takeSample c f.payload (tellLive c (s.unit c).state (s.heard c k (seqField f.payload)))
      if (s.unit c).state = .live then t else tellGrid c t := by
  rw [sensorFrame_of_ok h.up h.received, checkedSensorFrame, if_neg (not_not_intro h.kind),
    if_neg (not_not_intro h.words), validSensorFrame, heard_eq, updateUnit_unit]
  rfl

/-- A valid frame whose sample forms nothing. -/
theorem sensorFrame_still {t : State} (h : ValidFrame c bytes k f s)
    (ht : takeSample c f.payload (tellLive c (s.unit c).state (s.heard c k (seqField f.payload))) = t)
    (hstill : (s.unit c).state = .live ∨ c = .marker ∨ examine t = t) : sensorFrame c bytes s = t := by
  rw [sensorFrame_valid h, ht]
  dsimp only
  split
  · rfl
  · next hlive => exact tellGrid_eq (hstill.resolve_left hlive)

/-- A valid frame whose sample only changes the unit of its source. -/
theorem sensorFrame_counts {g : SourceUnit → SourceUnit} (h : ValidFrame c bytes k f s)
    (ht : takeSample c f.payload (tellLive c (s.unit c).state (s.heard c k (seqField f.payload))) =
      updateUnit c g (tellLive c (s.unit c).state (s.heard c k (seqField f.payload))))
    (hstill : (s.unit c).state = .live ∨ c = .marker ∨ s.FormsNothing c) :
    sensorFrame c bytes s = tellLive c (s.unit c).state (updateUnit c (fun _ =>
      g ((s.unit c).received k (s.now + s.run.settings.staleMs * 1000) (seqField f.payload))) s) := by
  rw [updateUnit_tellLive, State.heard, updateUnit_updateUnit] at ht
  refine (sensorFrame_still h ht (hstill.imp_right (Or.imp_right fun hn => ?_))).trans
    (congrArg _ (updateUnit_congr rfl))
  exact examine_of_formsNothing (((updateUnit_sameBut c _ s).trans (tellLive_sameBut c c _ _)).formsNothing hn)

end

/-! ### Stamping (R34) -/

/-- A sample that arrives now gets a stamp that rises (R34). -/
structure Stampable (c : Source) (s : State) : Prop where
  latency : s.run.settings.latency c ≤ s.now
  rises : ∀ t, (s.unit c).prevStamp = some t → t < s.now - s.run.settings.latency c

section

variable {c : Source} {handOn : Nat → State → State} {s : State}

theorem Stampable.of_same {t : State} (h : Stampable c s) (hs : SameBut c s t)
    (hp : (t.unit c).prevStamp = (s.unit c).prevStamp) : Stampable c t :=
  ⟨by rw [hs.run, hs.now]; exact h.latency, by rw [hs.run, hs.now, hp]; exact h.rises⟩

/-- The frame that carries a sample does not change whether it gets a stamp. -/
theorem Stampable.heard (h : Stampable c s) (b : SourceState) (k : Bool) (seq : Nat) :
    Stampable c (tellLive c b (s.heard c k seq)) :=
  h.of_same ((updateUnit_sameBut c _ s).trans (tellLive_sameBut c c b _)) (by
    rw [tellLive_unit, State.heard, updateUnit_unit]; rfl)

theorem stampSample_stamps (h : Stampable c s) :
    stampSample c handOn s = handOn (s.now - s.run.settings.latency c)
      (updateUnit c (fun u => { u with prevStamp := some (s.now - s.run.settings.latency c) }) s) := by
  have hstamp : (s.unit c).stampFor (s.run.settings.latency c) s.now = some (s.now - s.run.settings.latency c) := by
    rw [SourceUnit.stampFor, if_neg (Nat.not_lt.mpr h.latency)]
    cases hp : (s.unit c).prevStamp with
    | none => rfl
    | some t => exact if_pos (h.rises t hp)
  rw [stampSample, hstamp]

/-- A stamp that does not rise, or would lie before 0, is counted and goes no further (R34). -/
theorem stampSample_counts (hold : s.now < s.run.settings.latency c ∨
      ∃ t, (s.unit c).prevStamp = some t ∧ s.now - s.run.settings.latency c ≤ t) :
    stampSample c handOn s = updateUnit c (fun u => { u with nonmonotone := min 65535 (u.nonmonotone + 1) }) s := by
  have h : (s.unit c).stampFor (s.run.settings.latency c) s.now = none := by
    rw [SourceUnit.stampFor]
    rcases hold with hlt | ⟨t, ht, hle⟩
    · exact if_pos hlt
    · rw [ht]
      split
      · rfl
      · exact if_neg (Nat.not_lt.mpr hle)
  rw [stampSample, h]
  simp only [inc16_eq]

end

/-! ### The queues (R36 to R38) -/

section

variable {α : Type} (q : List (Entry α)) (e : Entry α)

theorem appendEntry_eq : appendEntry q e = (if decide (32 ≤ q.length) then q.tail else q) ++ [e] := by
  simp [appendEntry, sampleCapacity]

theorem mem_appendEntry {q : List (Entry α)} {e d : Entry α} (h : d ∈ appendEntry q e) : d ∈ q ∨ d = e := by
  rw [appendEntry_eq] at h
  rcases List.mem_append.mp h with h | h
  · split at h
    · exact .inl (List.mem_of_mem_tail h)
    · exact .inl h
  · exact .inr (List.mem_singleton.mp h)

theorem overruns_some (ref : Nat) :
    overruns (some ref) q = (decide (32 ≤ q.length) && decide (∃ d ∈ q.head?, ref < d.stamp)) := by
  cases q with
  | nil => simp [overruns]
  | cons d q => simp [overruns, atOrBelow, sampleCapacity, ← decide_not]

end

/-- The source of a head. -/
def headSource (left : Bool) : Source := if left then .headL else .headR

/-- The queue of a head. -/
def State.headQueue (s : State) (left : Bool) : List (Entry HeadVals) :=
  if left then s.intake.queueL else s.intake.queueR

/-- The part with a head's unit and queue replaced. -/
def State.withHead (s : State) (left : Bool) (u : SourceUnit) (q : List (Entry HeadVals)) : State :=
  { s with intake :=
    if left then { s.intake with units := s.intake.units.set (headSource left) u, queueL := q }
    else { s.intake with units := s.intake.units.set (headSource left) u, queueR := q } }

/-- The part with INERTIAL's unit and queue replaced. -/
def State.withInertial (s : State) (u : SourceUnit) (q : List (Entry InertialVals)) : State :=
  { s with intake := { s.intake with units := s.intake.units.set .inertial u, queueI := q } }

section

variable (s : State) (left : Bool) (u : SourceUnit)

theorem withHead_sameBut (q : List (Entry HeadVals)) : SameBut (headSource left) s (s.withHead left u q) := by
  cases left
  · exact ⟨rfl, rfl, rfl, fun _ hd => PerSource.get_set_of_ne _ _ hd, fun _ => rfl, fun h => absurd rfl h,
      fun _ => rfl⟩
  · exact ⟨rfl, rfl, rfl, fun _ hd => PerSource.get_set_of_ne _ _ hd, fun h => absurd rfl h, fun _ => rfl,
      fun _ => rfl⟩

theorem withInertial_sameBut (q : List (Entry InertialVals)) : SameBut .inertial s (s.withInertial u q) :=
  ⟨rfl, rfl, rfl, fun _ hd => PerSource.get_set_of_ne _ _ hd, fun _ => rfl, fun _ => rfl, fun h => absurd rfl h⟩

theorem withHead_ready (q : List (Entry HeadVals)) (t : Nat) :
    (s.withHead left u q).Ready (headSource left) t ↔ u.state ≠ .live ∨ ∃ e ∈ q, t < e.stamp := by
  cases left
  · exact ready_headR
  · exact ready_headL

theorem withInertial_ready (q : List (Entry InertialVals)) (t : Nat) :
    (s.withInertial u q).Ready .inertial t ↔ u.state ≠ .live ∨ ∃ e ∈ q, t < e.stamp := ready_inertial

theorem withHead_updateUnit (f : SourceUnit → SourceUnit) (q : List (Entry HeadVals)) :
    (updateUnit (headSource left) f s).withHead left u q = s.withHead left u q := by
  cases left <;> simp [updateUnit, State.withHead]

theorem withInertial_updateUnit (f : SourceUnit → SourceUnit) (q : List (Entry InertialVals)) :
    (updateUnit .inertial f s).withInertial u q = s.withInertial u q := by
  simp [updateUnit, State.withInertial]

end

/-- A stamped head sample enters its queue, and GRID examines (R37, R38, R46). -/
theorem queueHead_eq {s : State} (left : Bool) (v : HeadVals) (t : Nat) (h : s.run.state ≠ .idle) :
    queueHead left v t s = examine (s.withHead left
      ((s.unit (headSource left)).queued (atOrBelow s.intake.refTime t) (overruns s.intake.refTime (s.headQueue left)))
      (appendEntry (s.headQueue left) { stamp := t, vals := v, clamp := false })) := by
  rw [queueHead, if_neg h]
  cases left <;> rfl

theorem queueInertial_eq {s : State} (v : InertialVals) (clamp : Bool) (t : Nat) (h : s.run.state ≠ .idle) :
    queueInertial v clamp t s = examine (s.withInertial
      ((s.unit .inertial).queued (atOrBelow s.intake.refTime t) (overruns s.intake.refTime s.intake.queueI))
      (appendEntry s.intake.queueI { stamp := t, vals := v, clamp })) := by
  rw [queueInertial, if_neg h]
  rfl

end Sys2Proof.Machine
end

section
/-!
PROOFS. The samples of the queued sources, from their fields to GRID's examination, and the reads and samples that only
count (R31 to R34, R36 to R38, R44, R46).
-/

namespace Sys2Proof.Machine

/-! ### Limiting (R32) -/

theorem limit_eq_self {m x : Int} (hm : 0 ≤ m) : limit (-m) m x = x ↔ ¬(x < -m ∨ m < x) := by
  rw [limit_eq (by omega)]; omega

theorem limited_eq (v : InertialVals) : v.limited =
    ⟨max (-50000) (min 50000 v.aL), max (-50000) (min 50000 v.aR), max (-50000) (min 50000 v.aLat),
      max (-200000) (min 200000 v.theta), max (-2000000) (min 2000000 v.omega)⟩ := by
  unfold InertialVals.limited
  rw [limit_eq (by decide), limit_eq (by decide), limit_eq (by decide), limit_eq (by decide), limit_eq (by decide)]

/-- Values that limiting changes lie beyond a limit (R32). -/
theorem limited_ne_iff (v : InertialVals) : v.limited ≠ v ↔
    (v.aL < -50000 ∨ 50000 < v.aL) ∨ (v.aR < -50000 ∨ 50000 < v.aR) ∨ (v.aLat < -50000 ∨ 50000 < v.aLat) ∨
      (v.theta < -200000 ∨ 200000 < v.theta) ∨ (v.omega < -2000000 ∨ 2000000 < v.omega) := by
  have h : v.limited = v ↔ limit (-50000) 50000 v.aL = v.aL ∧ limit (-50000) 50000 v.aR = v.aR ∧
      limit (-50000) 50000 v.aLat = v.aLat ∧ limit (-200000) 200000 v.theta = v.theta ∧
      limit (-2000000) 2000000 v.omega = v.omega := InertialVals.mk.injEq .. ▸ Iff.rfl
  rw [Ne, h, limit_eq_self (by decide), limit_eq_self (by decide), limit_eq_self (by decide),
    limit_eq_self (by decide), limit_eq_self (by decide)]
  tauto

/-- A unit with a limited sample counted (R32). -/
def SourceUnit.withClamp (u : SourceUnit) (clamp : Bool) : SourceUnit :=
  { u with clampedSamples := if clamp then min 65535 (u.clampedSamples + 1) else u.clampedSamples }

/-- An INERTIAL_SAMPLE is counted where it was limited, and stamped (R32). -/
theorem inertialSample_eq (payload : List Word) (s : State) :
    inertialSample payload s =
      stampSample .inertial
        (queueInertial (inertialFields payload).limited
          (decide ((inertialFields payload).limited ≠ inertialFields payload)))
        (updateUnit .inertial
          (·.withClamp (decide ((inertialFields payload).limited ≠ inertialFields payload))) s) := by
  unfold inertialSample; dsimp only
  congr 1
  split
  · next h => rw [h]; exact updateUnit_congr (by simp [SourceUnit.withClamp, inc16_eq])
  · next h => rw [Bool.eq_false_iff.mpr h]; exact (updateUnit_self rfl).symm

/-! ### The entry of a stamped sample (R36 to R38) -/

theorem queued_eq (u : SourceUnit) (isLate isOverrun : Bool) : u.queued isLate isOverrun = { u with
    late := if isLate then min 65535 (u.late + 1) else u.late,
    overrun := if isOverrun then min 65535 (u.overrun + 1) else u.overrun } := by
  simp [SourceUnit.queued, inc16_eq]

section

variable {left : Bool} {payload : List Word} {s : State}

theorem headSample_stamps (hspot : spotValid payload = true) (h : Stampable (headSource left) s) :
    headSample left payload s =
      queueHead left (headFields payload) (s.now - s.run.settings.latency (headSource left))
        (updateUnit (headSource left)
          (fun u => { u with prevStamp := some (s.now - s.run.settings.latency (headSource left)) }) s) := by
  rw [headSample, if_pos hspot]
  exact stampSample_stamps h

theorem inertialSample_stamps (h : Stampable .inertial s) :
    inertialSample payload s =
      queueInertial (inertialFields payload).limited
        (decide ((inertialFields payload).limited ≠ inertialFields payload)) (s.now - s.run.settings.latencyI)
        (updateUnit .inertial (fun u => { u.withClamp
          (decide ((inertialFields payload).limited ≠ inertialFields payload)) with
            prevStamp := some (s.now - s.run.settings.latencyI) }) s) := by
  rw [inertialSample_eq, stampSample_stamps (h.of_same (updateUnit_sameBut _ _ s) (by rw [updateUnit_unit]; rfl)),
    updateUnit_updateUnit]
  rfl

end

/-! ### The examination after the entry (R44, R46) -/

/-- A sample of a source whose entry leaves the awaited point held up, by another source or by its own (R44, R46). -/
theorem examine_entered {c : Source} {s t : State} (h : SameBut c s t)
    (hn : s.FormsNothing c ∨ ∃ x more, s.grid.waiting = x :: more ∧ (∀ d, s.grid.deadline = some d → s.now < d) ∧
      ¬t.Ready c x.crossing) : examine t = t := by
  rcases hn with hn | ⟨x, more, hw, hd, hx⟩
  · exact examine_of_formsNothing (h.formsNothing hn)
  · refine examine_of_held_up (by rw [h.grid]; exact hw) (fun d he => ?_) hx
    rw [h.now]
    exact hd d (by rw [← h.grid]; exact he)

/-- A queue that a sample at or before a time has entered holds none later, if it held none (R37, R44). -/
theorem appendEntry_not_later {α : Type} {q : List (Entry α)} {e : Entry α} {t : Nat} (he : e.stamp ≤ t)
    (hq : ∀ d ∈ q, d.stamp ≤ t) : ¬∃ d ∈ appendEntry q e, t < d.stamp := by
  rintro ⟨d, hd, hlt⟩
  rcases mem_appendEntry hd with hd | rfl
  · exact Nat.not_lt.mpr (hq d hd) hlt
  · exact Nat.not_lt.mpr he hlt

/-- From `s` to `t`, a sample of source `c` with a stamp has entered its queue. -/
structure Enters (c : Source) (stamp : Nat) (s t : State) : Prop where
  same : SameBut c s t
  odo : t.odo = s.odo
  pos : t.pos = s.pos
  svc : t.svc = s.svc
  state : (t.unit c).state = (s.unit c).state
  deadline : (t.unit c).deadline = (s.unit c).deadline
  prevStamp : (t.unit c).prevStamp = some stamp
  newestL : c = .headL → ∃ q e, t.intake.queueL = q ++ [e] ∧ e.stamp = stamp
  newestR : c = .headR → ∃ q e, t.intake.queueR = q ++ [e] ∧ e.stamp = stamp
  newestI : c = .inertial → ∃ q e, t.intake.queueI = q ++ [e] ∧ e.stamp = stamp

section

variable {c : Source} {stamp : Nat} {s t : State}

/-- A source is satisfied by the sample that has entered its queue (R44). -/
theorem Enters.ready (h : Enters c stamp s t) {x : Nat} (hx : x < stamp) : t.Ready c x := by
  cases c with
  | headL =>
    obtain ⟨q, e, hq, he⟩ := h.newestL rfl
    exact ready_headL.mpr (.inr ⟨e, by simp [hq], he ▸ hx⟩)
  | headR =>
    obtain ⟨q, e, hq, he⟩ := h.newestR rfl
    exact ready_headR.mpr (.inr ⟨e, by simp [hq], he ▸ hx⟩)
  | inertial =>
    obtain ⟨q, e, hq, he⟩ := h.newestI rfl
    exact ready_inertial.mpr (.inr ⟨e, by simp [hq], he ▸ hx⟩)
  | marker => exact ready_marker t x

/-- The newest entry of a queue after a point has been formed before it (R39). -/
theorem trimQueue_newest {α : Type} {q : List (Entry α)} {x : Nat} (h : ∃ r e, q = r ++ [e] ∧ e.stamp = stamp)
    (hx : x < stamp) : (trimQueue q x).getLast?.map (·.stamp) = some stamp := by
  obtain ⟨r, e, rfl, rfl⟩ := h
  rw [trimQueue_append_singleton hx]; rfl

end

theorem queueHead_enters {left : Bool} {s : State} (v : HeadVals) (t : Nat) (h : s.run.state ≠ .idle)
    (hprev : (s.unit (headSource left)).prevStamp = some t) :
    ∃ u, queueHead left v t s = examine u ∧ Enters (headSource left) t s u := by
  refine ⟨_, queueHead_eq left v t h, ?_⟩
  cases left
  · exact ⟨withHead_sameBut s false _ _, rfl, rfl, rfl, rfl, rfl, hprev, fun k => Source.noConfusion k,
      fun _ => ⟨_, _, rfl, rfl⟩, fun k => Source.noConfusion k⟩
  · exact ⟨withHead_sameBut s true _ _, rfl, rfl, rfl, rfl, rfl, hprev, fun _ => ⟨_, _, rfl, rfl⟩,
      fun k => Source.noConfusion k, fun k => Source.noConfusion k⟩

theorem queueInertial_enters {s : State} (v : InertialVals) (clamp : Bool) (t : Nat) (h : s.run.state ≠ .idle)
    (hprev : (s.unit .inertial).prevStamp = some t) :
    ∃ u, queueInertial v clamp t s = examine u ∧ Enters .inertial t s u :=
  ⟨_, queueInertial_eq v clamp t h, withInertial_sameBut s _ _, rfl, rfl, rfl, rfl, rfl, hprev,
    fun k => Source.noConfusion k, fun k => Source.noConfusion k, fun _ => ⟨_, _, rfl, rfl⟩⟩

/-- A source whose unit has changed, but for its state and its deadline, before its sample entered. -/
theorem Enters.of_updateUnit {c : Source} {stamp : Nat} {f : SourceUnit → SourceUnit} {s t : State}
    (h : Enters c stamp (updateUnit c f s) t) (hstate : (f (s.unit c)).state = (s.unit c).state)
    (hdeadline : (f (s.unit c)).deadline = (s.unit c).deadline) : Enters c stamp s t where
  same := (updateUnit_sameBut c f s).trans h.same
  odo := h.odo
  pos := h.pos
  svc := h.svc
  state := h.state.trans (by rw [updateUnit_unit]; exact hstate)
  deadline := h.deadline.trans (by rw [updateUnit_unit]; exact hdeadline)
  prevStamp := h.prevStamp
  newestL := h.newestL
  newestR := h.newestR
  newestI := h.newestI

theorem headSample_enters {left : Bool} {payload : List Word} {s : State} (h : s.run.state ≠ .idle)
    (hspot : spotValid payload = true) (hstamp : Stampable (headSource left) s) :
    ∃ t, headSample left payload s = examine t ∧
      Enters (headSource left) (s.now - s.run.settings.latency (headSource left)) s t := by
  obtain ⟨t, ht, he⟩ := queueHead_enters (s := updateUnit (headSource left)
    (fun u => { u with prevStamp := some (s.now - s.run.settings.latency (headSource left)) }) s)
    (headFields payload) (s.now - s.run.settings.latency (headSource left)) h (by rw [updateUnit_unit])
  exact ⟨t, (headSample_stamps hspot hstamp).trans ht, he.of_updateUnit rfl rfl⟩

/-- A sample of a queued source that R31 to R34 let pass enters its queue in a run, and GRID examines (R37, R46). -/
theorem takeSample_enters {c : Source} {payload : List Word} {s : State} (hc : c ≠ .marker) (h : s.run.state ≠ .idle)
    (hspot : c ≠ .inertial → spotValid payload = true) (hstamp : Stampable c s) :
    ∃ t, takeSample c payload s = examine t ∧ Enters c (s.now - s.run.settings.latency c) s t := by
  cases c with
  | headL => exact headSample_enters (left := true) h (hspot (by decide)) hstamp
  | headR => exact headSample_enters (left := false) h (hspot (by decide)) hstamp
  | inertial =>
    obtain ⟨t, ht, he⟩ := queueInertial_enters (s := updateUnit .inertial (fun u => { u.withClamp
      (decide ((inertialFields payload).limited ≠ inertialFields payload)) with
        prevStamp := some (s.now - s.run.settings.latencyI) }) s) (inertialFields payload).limited
      (decide ((inertialFields payload).limited ≠ inertialFields payload)) (s.now - s.run.settings.latencyI) h
      (by rw [updateUnit_unit])
    exact ⟨t, (inertialSample_stamps hstamp).trans ht, he.of_updateUnit rfl rfl⟩
  | marker => exact absurd rfl hc

/-- The sample of a LIVE source that is later than the only awaited point, for which the other sources are satisfied,
forms it (R37, R44, R46). -/
theorem sensorFrame_forms {c : Source} {bytes : List Byte} {f : RxFrame} {k : Bool} {x : CreatedPoint} {s : State}
    (h : ValidFrame c bytes k f s) (hc : c ≠ .marker) (hspot : c ≠ .inertial → spotValid f.payload = true)
    (hlive : (s.unit c).state = .live) (hr : s.run.state = .running) (hw : s.grid.waiting = [x])
    (hstamp : Stampable c s) (hx : x.crossing < s.now - s.run.settings.latency c)
    (hready : ∀ d, d ≠ c → s.Ready d x.crossing) :
    ∃ t, sensorFrame c bytes s = formPoint x [] t ∧
      Enters c (s.now - s.run.settings.latency c) (s.heard c k (seqField f.payload)) t := by
  have hheard : SameBut c s (s.heard c k (seqField f.payload)) := updateUnit_sameBut c _ s
  obtain ⟨t, ht, he⟩ := takeSample_enters (s := s.heard c k (seqField f.payload)) hc
    (by rw [hheard.run, hr]; decide) hspot (hstamp.of_same hheard (by rw [State.heard, updateUnit_unit]; rfl))
  have hsame := hheard.trans he.same
  refine ⟨t, ?_, he⟩
  rw [sensorFrame_valid h, if_pos hlive, hlive, tellLive_of_live, ht]
  refine examine_forms_last (by rw [hsame.run]; exact hr) (by rw [hsame.grid]; exact hw)
    (satisfied_all_iff.mpr (.inr fun d => ?_))
  by_cases hd : d = c
  · exact hd ▸ he.ready hx
  · exact (hsame.ready hd _).mpr (hready d hd)

/-! ### The statement -/

/-- A stamped head sample enters its queue behind the notice of its source's change to LIVE (R29, R37). -/
theorem queueHead_told {ref : Nat} {left : Bool} {s : State} (b : SourceState) (f : SourceUnit → SourceUnit)
    (v : HeadVals) (t : Nat) (hr : s.run.state ≠ .idle) (href : s.intake.refTime = some ref) :
    queueHead left v t (tellLive (headSource left) b (updateUnit (headSource left) f s)) =
      examine (tellLive (headSource left) b (s.withHead left
        ((f (s.unit (headSource left))).queued (decide (t ≤ ref)) (overruns (some ref) (s.headQueue left)))
        (appendEntry (s.headQueue left) { stamp := t, vals := v, clamp := false }))) := by
  have hqueue : (tellLive (headSource left) b (updateUnit (headSource left) f s)).headQueue left = s.headQueue left := by
    rw [State.headQueue, tellLive_intake]; rfl
  have hwith (u : SourceUnit) (q : List (Entry HeadVals)) :
      (tellLive (headSource left) b (updateUnit (headSource left) f s)).withHead left u q =
        tellLive (headSource left) b (s.withHead left u q) := by
    rw [← withHead_updateUnit s left u f q]
    unfold tellLive; split <;> rfl
  rw [queueHead_eq _ _ _ (by rw [tellLive_run]; exact hr), hqueue, hwith, tellLive_unit, updateUnit_unit,
    tellLive_intake, updateUnit_intake_refTime, href]
  rfl

theorem queueInertial_told {ref : Nat} {s : State} (b : SourceState) (f : SourceUnit → SourceUnit) (v : InertialVals)
    (clamp : Bool) (t : Nat) (hr : s.run.state ≠ .idle) (href : s.intake.refTime = some ref) :
    queueInertial v clamp t (tellLive .inertial b (updateUnit .inertial f s)) =
      examine (tellLive .inertial b (s.withInertial
        ((f (s.unit .inertial)).queued (decide (t ≤ ref)) (overruns (some ref) s.intake.queueI))
        (appendEntry s.intake.queueI { stamp := t, vals := v, clamp }))) := by
  have hwith (u : SourceUnit) (q : List (Entry InertialVals)) :
      (tellLive .inertial b (updateUnit .inertial f s)).withInertial u q =
        tellLive .inertial b (s.withInertial u q) := by
    rw [← withInertial_updateUnit s u f q]
    unfold tellLive; split <;> rfl
  rw [queueInertial_eq _ _ _ (by rw [tellLive_run]; exact hr), hwith, tellLive_unit, updateUnit_unit,
    tellLive_intake, updateUnit_intake_refTime, updateUnit_intake_queueI, href]
  rfl

section

variable {bytes : List Byte} {k : Bool} {f : RxFrame} {s : State}

/-- A HEAD_SAMPLE with a spot joins its queue in a run, where nothing is formed (R31, R34, R36 to R38). -/
theorem sensorFrame_head {left : Bool} {ref : Nat} (h : ValidFrame (headSource left) bytes k f s)
    (hspot : spotValid f.payload = true) (hstamp : Stampable (headSource left) s)
    (hr : s.run.state ≠ .idle) (href : s.intake.refTime = some ref)
    (hn : s.FormsNothing (headSource left) ∨ ∃ x more, s.grid.waiting = x :: more ∧
      (∀ d, s.grid.deadline = some d → s.now < d) ∧ s.now - s.run.settings.latency (headSource left) ≤ x.crossing ∧
      ∀ e ∈ s.headQueue left, e.stamp ≤ x.crossing) :
    let c := headSource left
    let stamp := s.now - s.run.settings.latency c
    let v := (s.unit c).received k (s.now + s.run.settings.staleMs * 1000) (seqField f.payload)
    sensorFrame c bytes s = tellLive c (s.unit c).state (s.withHead left
      (({ v with prevStamp := some stamp } : SourceUnit).queued (decide (stamp ≤ ref))
        (overruns (some ref) (s.headQueue left)))
      (appendEntry (s.headQueue left) { stamp, vals := headFields f.payload, clamp := false })) := by
  intro c stamp v
  generalize hT : tellLive c (s.unit c).state (s.withHead left
      (({ v with prevStamp := some stamp } : SourceUnit).queued (decide (stamp ≤ ref))
        (overruns (some ref) (s.headQueue left)))
      (appendEntry (s.headQueue left) { stamp, vals := headFields f.payload, clamp := false })) = T
  have hsample : takeSample c f.payload (tellLive c (s.unit c).state (s.heard c k (seqField f.payload))) =
      examine T := by
    have hhead : takeSample c f.payload = headSample left f.payload := by cases left <;> rfl
    rw [hhead, headSample_stamps hspot (hstamp.heard _ _ _), tellLive_run, tellLive_now, updateUnit_tellLive,
      State.heard, updateUnit_updateUnit, queueHead_told _ _ _ _ hr href, ← hT]
    rfl
  have hT' : examine T = T := by
    subst hT
    refine examine_entered ((withHead_sameBut s left _ _).trans (tellLive_sameBut c c _ _))
      (hn.imp_right fun ⟨x, more, hw, hd, hle, hq⟩ => ⟨x, more, hw, hd, fun hready => ?_⟩)
    rw [tellLive_ready, withHead_ready, queued_eq] at hready
    exact appendEntry_not_later hle hq (hready.resolve_left (not_not_intro rfl))
  exact sensorFrame_still h (hsample.trans hT') (.inr (.inr hT'))

/-- An INERTIAL_SAMPLE joins its queue in a run, where nothing is formed (R32, R34, R36 to R38). -/
theorem sensorFrame_inertial {ref : Nat} (h : ValidFrame .inertial bytes k f s) (hstamp : Stampable .inertial s)
    (hr : s.run.state ≠ .idle) (href : s.intake.refTime = some ref)
    (hn : s.FormsNothing .inertial ∨ ∃ x more, s.grid.waiting = x :: more ∧
      (∀ d, s.grid.deadline = some d → s.now < d) ∧ s.now - s.run.settings.latencyI ≤ x.crossing ∧
      ∀ e ∈ s.intake.queueI, e.stamp ≤ x.crossing) :
    let vals := (inertialFields f.payload).limited
    let clamp : Bool := decide (vals ≠ inertialFields f.payload)
    let stamp := s.now - s.run.settings.latencyI
    let v := ((s.unit .inertial).received k (s.now + s.run.settings.staleMs * 1000) (seqField f.payload)).withClamp clamp
    sensorFrame .inertial bytes s = tellLive .inertial (s.unit .inertial).state (s.withInertial
      (({ v with prevStamp := some stamp } : SourceUnit).queued (decide (stamp ≤ ref))
        (overruns (some ref) s.intake.queueI))
      (appendEntry s.intake.queueI { stamp, vals, clamp })) := by
  intro vals clamp stamp v
  generalize hT : tellLive .inertial (s.unit .inertial).state (s.withInertial
      (({ v with prevStamp := some stamp } : SourceUnit).queued (decide (stamp ≤ ref))
        (overruns (some ref) s.intake.queueI))
      (appendEntry s.intake.queueI { stamp, vals, clamp })) = T
  have hsample : takeSample .inertial f.payload
      (tellLive .inertial (s.unit .inertial).state (s.heard .inertial k (seqField f.payload))) = examine T := by
    rw [show takeSample .inertial f.payload = inertialSample f.payload from rfl,
      inertialSample_stamps (hstamp.heard _ _ _), tellLive_run, tellLive_now, updateUnit_tellLive, State.heard,
      updateUnit_updateUnit,
      queueInertial_told _ _ _ _ _ hr href, ← hT]
    rfl
  have hT' : examine T = T := by
    subst hT
    refine examine_entered ((withInertial_sameBut s _ _).trans (tellLive_sameBut .inertial .inertial _ _))
      (hn.imp_right fun ⟨x, more, hw, hd, hle, hq⟩ => ⟨x, more, hw, hd, fun hready => ?_⟩)
    rw [tellLive_ready, withInertial_ready, queued_eq] at hready
    exact appendEntry_not_later hle hq (hready.resolve_left (not_not_intro rfl))
  exact sensorFrame_still h (hsample.trans hT') (.inr (.inr hT'))

end

end Sys2Proof.Machine
end

section
/-!
PROOFS. The samples and reads that only count, the samples of a part in IDLE, and the statement on sensor frames (R30 to
R34, R36).
-/

namespace Sys2Proof.Machine

section

variable {c : Source} {b : SourceState} {k : Bool} {seq : Nat} {s : State}

/-- A stamp that R34 discards is discarded once its frame has been received. -/
theorem stampSample_counts_heard {f : SourceUnit → SourceUnit} (hf : ∀ u, (f u).prevStamp = u.prevStamp)
    (handOn : Nat → State → State)
    (hold : s.now < s.run.settings.latency c ∨
      ∃ t, (s.unit c).prevStamp = some t ∧ s.now - s.run.settings.latency c ≤ t) :
    stampSample c handOn (updateUnit c f (tellLive c b (s.heard c k seq))) =
      updateUnit c (fun u => { f u with nonmonotone := min 65535 ((f u).nonmonotone + 1) })
        (tellLive c b (s.heard c k seq)) := by
  rw [stampSample_counts, updateUnit_updateUnit]
  rw [updateUnit_unit, hf, tellLive_unit, updateUnit_run, updateUnit_now, tellLive_run, tellLive_now, State.heard,
    updateUnit_unit]
  exact hold

/-- In IDLE a stamped head sample is not queued (R36). -/
theorem headSample_idle {left : Bool} {payload : List Word} (hidle : s.run.state = .idle)
    (hspot : spotValid payload = true) (h : Stampable (headSource left) s) :
    headSample left payload s = updateUnit (headSource left)
      (fun u => { u with prevStamp := some (s.now - s.run.settings.latency (headSource left)) }) s := by
  rw [headSample_stamps hspot h]
  exact if_pos hidle

theorem inertialSample_idle {payload : List Word} (hidle : s.run.state = .idle) (h : Stampable .inertial s) :
    inertialSample payload s = updateUnit .inertial (fun u => { u.withClamp
      (decide ((inertialFields payload).limited ≠ inertialFields payload)) with
        prevStamp := some (s.now - s.run.settings.latencyI) }) s := by
  rw [inertialSample_stamps h]
  exact if_pos hidle

/-- A HEAD_SAMPLE without a spot is counted (R31). -/
theorem headSample_lost {left : Bool} {payload : List Word} (h : spotValid payload = false) :
    headSample left payload s =
      updateUnit (headSource left) (fun u => { u with spotLosses := min 65535 (u.spotLosses + 1) }) s := by
  rw [headSample, if_neg (by rw [h]; decide)]
  simp only [inc16_eq]
  rfl

theorem takeSample_head (left : Bool) (payload : List Word) :
    takeSample (headSource left) payload = headSample left payload := by cases left <;> rfl

/-- A HEAD_SAMPLE whose stamp does not rise is counted (R34). -/
theorem headSample_old {left : Bool} {payload : List Word} (h : spotValid payload = true)
    (hold : s.now < s.run.settings.latency (headSource left) ∨
      ∃ t, (s.unit (headSource left)).prevStamp = some t ∧ s.now - s.run.settings.latency (headSource left) ≤ t) :
    headSample left payload (tellLive (headSource left) b (s.heard (headSource left) k seq)) =
      updateUnit (headSource left) (fun u => { u with nonmonotone := min 65535 (u.nonmonotone + 1) })
        (tellLive (headSource left) b (s.heard (headSource left) k seq)) := by
  have hs := stampSample_counts_heard (c := headSource left) (b := b) (k := k) (seq := seq) (f := id) (fun _ => rfl)
    (queueHead left (headFields payload)) hold
  rw [updateUnit_self rfl] at hs
  rw [headSample, if_pos h]
  exact hs

/-- A MARKER_READ of strength 0 is counted (R33). -/
theorem markerSample_weak {payload : List Word} (h : strengthField payload = 0) :
    markerSample payload s = updateUnit .marker (fun u => { u with weakReads := min 65535 (u.weakReads + 1) }) s := by
  rw [markerSample, if_pos h]
  simp only [inc16_eq]

theorem markerSample_old {payload : List Word} (h : strengthField payload ≠ 0)
    (hold : s.now < s.run.settings.latencyM ∨
      ∃ t, (s.unit .marker).prevStamp = some t ∧ s.now - s.run.settings.latencyM ≤ t) :
    markerSample payload (tellLive .marker b (s.heard .marker k seq)) =
      updateUnit .marker (fun u => { u with nonmonotone := min 65535 (u.nonmonotone + 1) })
        (tellLive .marker b (s.heard .marker k seq)) := by
  have hs (handOn : Nat → State → State) := stampSample_counts_heard (c := .marker) (b := b) (k := k) (seq := seq)
    (f := id) (fun _ => rfl) handOn hold
  rw [updateUnit_self rfl] at hs
  rw [markerSample, if_neg h]
  exact hs _

/-- An INERTIAL_SAMPLE whose stamp does not rise is counted, and counted as limited where it was (R32, R34). -/
theorem inertialSample_old {payload : List Word}
    (hold : s.now < s.run.settings.latencyI ∨
      ∃ t, (s.unit .inertial).prevStamp = some t ∧ s.now - s.run.settings.latencyI ≤ t) :
    inertialSample payload (tellLive .inertial b (s.heard .inertial k seq)) =
      updateUnit .inertial (fun u => { u.withClamp
        (decide ((inertialFields payload).limited ≠ inertialFields payload)) with
          nonmonotone := min 65535 (u.nonmonotone + 1) }) (tellLive .inertial b (s.heard .inertial k seq)) := by
  rw [inertialSample_eq]
  exact stampSample_counts_heard (c := .inertial)
    (f := (·.withClamp (decide ((inertialFields payload).limited ≠ inertialFields payload)))) (fun _ => rfl) _ hold

end

theorem strengthField_eq (w1 : Word) (rest : List Word) :
    strengthField (w1 :: rest) = w1.toNat / 65536 % 256 := by
  show (w1.extractLsb' 16 8).toNat = _
  rw [BitVec.extractLsb'_toNat, Nat.shiftRight_eq_div_pow]

theorem headFields_eq (w1 w2 : Word) :
    headFields [w1, w2] = { g := (w2.extractLsb' 0 16).toInt, h := (w2.extractLsb' 16 16).toInt } := rfl

/-- The counts of a sample that enters its queue in a run with a reference time (R37, R38). -/
theorem queued_at_ref {α : Type} (u : SourceUnit) (q : List (Entry α)) (t ref : Nat) :
    u.queued (decide (t ≤ ref)) (overruns (some ref) q) = { u with
      late := if t ≤ ref then min 65535 (u.late + 1) else u.late,
      overrun := if (decide (32 ≤ q.length) && decide (∃ d ∈ q.head?, ref < d.stamp)) = true then
        min 65535 (u.overrun + 1) else u.overrun } := by
  rw [queued_eq, overruns_some]
  simp only [decide_eq_true_eq]

theorem exec_sensorFrame (c : Source) (bytes : List Byte) (s : State) :
    exec (.sensorFrameArrival c bytes) s = .next (sensorFrame c bytes s) := rfl

section

variable {bytes : List Byte} {k : Bool} {f : RxFrame} {s : State}

/-- In IDLE a HEAD_SAMPLE with a spot is stamped and not queued (R34, R36). -/
theorem sensorFrame_head_idle {left : Bool} (h : ValidFrame (headSource left) bytes k f s)
    (hspot : spotValid f.payload = true) (hstamp : Stampable (headSource left) s) (hidle : s.run.state = .idle) :
    let c := headSource left
    sensorFrame c bytes s = tellLive c (s.unit c).state (updateUnit c (fun _ =>
      { (s.unit c).received k (s.now + s.run.settings.staleMs * 1000) (seqField f.payload) with
        prevStamp := some (s.now - s.run.settings.latency c) }) s) := by
  intro c
  refine sensorFrame_counts (g := fun x => { x with prevStamp := some (s.now - s.run.settings.latency c) })
    h ?_ (.inr (.inr (.inl hidle)))
  rw [takeSample_head, headSample_idle (by rw [tellLive_run]; exact hidle) hspot (hstamp.heard _ _ _), tellLive_run,
    tellLive_now]
  rfl

/-- In IDLE an INERTIAL_SAMPLE is limited, stamped and not queued (R32, R34, R36). -/
theorem sensorFrame_inertial_idle (h : ValidFrame .inertial bytes k f s) (hstamp : Stampable .inertial s)
    (hidle : s.run.state = .idle) :
    sensorFrame .inertial bytes s = tellLive .inertial (s.unit .inertial).state (updateUnit .inertial (fun _ =>
      { ((s.unit .inertial).received k (s.now + s.run.settings.staleMs * 1000) (seqField f.payload)).withClamp
          (decide ((inertialFields f.payload).limited ≠ inertialFields f.payload)) with
        prevStamp := some (s.now - s.run.settings.latencyI) }) s) := by
  refine sensorFrame_counts (g := fun x => { x.withClamp
    (decide ((inertialFields f.payload).limited ≠ inertialFields f.payload)) with
      prevStamp := some (s.now - s.run.settings.latencyI) }) h ?_ (.inr (.inr (.inl hidle)))
  rw [show takeSample .inertial f.payload = inertialSample f.payload from rfl,
    inertialSample_idle (by rw [tellLive_run]; exact hidle) (hstamp.heard _ _ _), tellLive_run, tellLive_now]
  rfl

end

/-- Settles O17: a sample that passes joins its queue and GRID's examination forms nothing (`sensorFrame_head`,
`sensorFrame_inertial`) or the only awaited point (`sensorFrame_forms`); every other frame only counts
(`sensorFrame_counts`). -/
theorem headSamplesJoinTheirQueue : Obligations.HeadSamplesJoinTheirQueue := by
  refine ⟨?_, ?_, ?_, ?_⟩
  · intro left bytes w1 w2 tag q2 k s c u q stamp v h hup hspot hlat hprev
    have hframe : ValidFrame (headSource left) bytes k { kind := 0x80#8, tag, seq := q2, payload := [w1, w2] } s :=
      ⟨hup, h, by cases left <;> rfl, by cases left <;> rfl⟩
    constructor
    · intro hidle
      rw [exec_sensorFrame]
      exact congrArg _ (sensorFrame_head_idle hframe hspot ⟨hlat, hprev⟩ hidle)
    · intro ref hr href hn full lost u' e q'
      rw [exec_sensorFrame]
      refine congrArg _ ((sensorFrame_head hframe hspot ⟨hlat, hprev⟩ hr href hn).trans ?_)
      rw [queued_at_ref, appendEntry_eq, headFields_eq]
      rfl
  · intro bytes w1 w2 w3 w4 w5 w6 tag q2 k s u q stamp lim raw vals clamp v h hup hlat hprev
    have hvals : (inertialFields [w1, w2, w3, w4, w5, w6]).limited = vals := limited_eq raw
    constructor
    · intro hidle
      have hf := sensorFrame_inertial_idle ⟨hup, h, rfl, rfl⟩ ⟨hlat, hprev⟩ hidle
      rw [hvals] at hf
      rw [exec_sensorFrame]
      exact congrArg _ hf
    · intro ref hr href hn full lost u'
      have hf := sensorFrame_inertial ⟨hup, h, rfl, rfl⟩ ⟨hlat, hprev⟩ hr href hn
      rw [hvals] at hf
      rw [exec_sensorFrame]
      refine congrArg _ (hf.trans ?_)
      rw [queued_at_ref, appendEntry_eq]
      rfl
  · intro c bytes f k x s stamp newest h hkind hlen hc hspot hup hlive hr hw hlat hprev hx hready
    obtain ⟨t, ht, he⟩ := sensorFrame_forms ⟨hup, h, hkind, hlen⟩ hc hspot hlive hr hw ⟨hlat, hprev⟩ hx hready
    have hintake := formPoint_intake x [] t
    refine ⟨formPoint x [] t, by rw [exec_sensorFrame, ht], formPoint_f _ _ _, formPoint_waiting _ _ _,
      formPoint_deadline _ _ _, formPoint_refTime _ _ _, ?_, ?_, ?_, fun hL => ?_, fun hR => ?_, fun hI => ?_,
      fun d hd => ?_, ?_, ?_, ?_⟩
    · rw [formPoint_unit, he.state, State.heard, updateUnit_unit]; rfl
    · rw [formPoint_unit]; exact he.prevStamp
    · rw [formPoint_unit, he.deadline, State.heard, updateUnit_unit]; rfl
    · rw [hintake]; exact trimQueue_newest (he.newestL hL) hx
    · rw [hintake]; exact trimQueue_newest (he.newestR hR) hx
    · rw [hintake]; exact trimQueue_newest (he.newestI hI) hx
    · rw [formPoint_unit, he.same.units d hd]; exact updateUnit_unit_of_ne _ s hd
    · rw [formPoint_odo, he.odo]; rfl
    · rw [formPoint_pos, he.pos]; rfl
    · rw [formPoint_svc, he.svc]; rfl
  · intro c bytes w1 rest tag q2 k s u tracked answers old beyond h hup hstill
    have hcounts {g : SourceUnit → SourceUnit} (hlen : (w1 :: rest).length = c.frameWords)
        (ht : takeSample c (w1 :: rest) (tellLive c u.state (s.heard c k (seqField (w1 :: rest)))) =
          updateUnit c g (tellLive c u.state (s.heard c k (seqField (w1 :: rest))))) : answers (g tracked) :=
      congrArg Host.Outcome.next (sensorFrame_counts ⟨hup, h, rfl, hlen⟩ ht hstill)
    refine ⟨fun w2 hc hrest => ?_, fun w2 w3 w4 w5 w6 hc hrest hold => ?_, fun w2 hc hrest => ?_⟩
    · obtain ⟨left, rfl⟩ : ∃ left, c = headSource left := hc.elim (fun e => ⟨true, e⟩) fun e => ⟨false, e⟩
      have hlen : (w1 :: rest).length = (headSource left).frameWords := by rw [hrest]; cases left <;> rfl
      refine ⟨fun hlost => hcounts (g := fun x => { x with spotLosses := min 65535 (x.spotLosses + 1) }) hlen ?_,
        fun hspot hold => hcounts (g := fun x => { x with nonmonotone := min 65535 (x.nonmonotone + 1) }) hlen ?_⟩
      · rw [takeSample_head]; exact headSample_lost hlost
      · rw [takeSample_head]; exact headSample_old hspot hold
    · subst hc hrest
      have hall := hcounts (g := fun x => { x.withClamp
        (decide ((inertialFields [w1, w2, w3, w4, w5, w6]).limited ≠ inertialFields [w1, w2, w3, w4, w5, w6])) with
          nonmonotone := min 65535 (x.nonmonotone + 1) }) rfl (inertialSample_old hold)
      have hiff := limited_ne_iff (inertialFields [w1, w2, w3, w4, w5, w6])
      refine ⟨fun hclamp => ?_, fun hclamp => ?_⟩
      · rw [decide_eq_true (hiff.mpr hclamp)] at hall; exact hall
      · rw [decide_eq_false fun k => hclamp (hiff.mp k)] at hall; exact hall
    · subst hc hrest
      intro strength
      have hstrength : strengthField [w1, w2] = strength := strengthField_eq w1 [w2]
      refine ⟨fun hweak => hcounts (g := fun x => { x with weakReads := min 65535 (x.weakReads + 1) }) rfl
          (markerSample_weak (hstrength.trans hweak)),
        fun hstrong hold => hcounts (g := fun x => { x with nonmonotone := min 65535 (x.nonmonotone + 1) }) rfl
          (markerSample_old (by rw [hstrength]; exact hstrong) hold)⟩

end Sys2Proof.Machine
end

section
/-!
PROOFS. The closes of open records, said once: what one close does to EXM and the ports, and what a round of closes over
parameters leaves (R153 to R155, R171).
-/

namespace Sys2Proof.Machine

/-! ### A record changed by its id -/

/-- What a change of a record keeps, the list keeps. -/
theorem map_updateRecord {α : Type} {g : ExcRecord → α} {f : ExcRecord → ExcRecord} (hf : ∀ r, g (f r) = g r) (i : Nat)
    (l : List ExcRecord) : (updateRecord i f l).map g = l.map g := by
  rw [updateRecord, List.map_map]
  refine List.map_congr_left fun r _ => ?_
  show g (if r.id = i then f r else r) = g r
  split
  · exact hf r
  · rfl

theorem forall_updateRecord {P : ExcRecord → Prop} {f : ExcRecord → ExcRecord} (hf : ∀ r, P r → P (f r)) {i : Nat}
    {l : List ExcRecord} (h : ∀ r ∈ l, P r) : ∀ r ∈ updateRecord i f l, P r := by
  intro r hr
  obtain ⟨y, hy, rfl⟩ := List.mem_map.mp hr
  split
  · exact hf y (h y hy)
  · exact h y hy

theorem mem_updateRecord_of_ne {i : Nat} {f : ExcRecord → ExcRecord} {l : List ExcRecord} {r : ExcRecord} (hr : r ∈ l)
    (h : r.id ≠ i) : r ∈ updateRecord i f l := List.mem_map.mpr ⟨r, hr, if_neg h⟩

theorem findRecord_updateRecord {f : ExcRecord → ExcRecord} (hf : ∀ r, (f r).id = r.id) (i : Nat)
    (l : List ExcRecord) : findRecord i (updateRecord i f l) = (findRecord i l).map f := by
  induction l with
  | nil => rfl
  | cons x l ih =>
    unfold findRecord updateRecord at ih ⊢
    by_cases h : x.id = i
    · simp [h, hf]
    · simpa [h] using ih

/-- A search finds the only entry of a list that qualifies. -/
theorem find?_of_only {α : Type} {P : α → Bool} {l : List α} {r : α} (hr : r ∈ l) (hP : P r = true)
    (h : ∀ y ∈ l, P y = true → y = r) : l.find? P = some r := by
  obtain ⟨y, hy⟩ := Option.isSome_iff_exists.mp (List.find?_isSome.mpr ⟨r, hr, hP⟩)
  rw [hy, h y (List.mem_of_find?_eq_some hy) (List.find?_some hy)]

/-- A record that has closed (R155). -/
def ExcRecord.closedAt (x : Closing) (r : ExcRecord) : ExcRecord := { r with closing := some x }

/-! ### The open record of a parameter (R154) -/

section

variable {e : Exm} {p : Param} {o : OpenGroup} {r : ExcRecord}

theorem ExmInv.find_id (h : ExmInv e) (hr : r ∈ e.records) : findRecord r.id e.records = some r :=
  find?_of_index h.ordered hr rfl

/-- The ids of the list are distinct (R162). -/
theorem ExmInv.eq_of_id (h : ExmInv e) {y : ExcRecord} (hr : r ∈ e.records) (hy : y ∈ e.records) (hid : y.id = r.id) :
    y = r := Option.some.inj ((h.find_id hy).symm.trans (hid ▸ h.find_id hr))

/-- A parameter's open record is in the list, and is the only open one of the parameter (R154). -/
theorem ExmInv.find_open (h : ExmInv e) (ho : (e.groups.get p).current = some o) :
    ∃ r ∈ e.records, r.id = o.id ∧ r.param = p ∧
      e.records.find? (fun y => decide (y.param = p ∧ y.closing = none)) = some r := by
  obtain ⟨r, hr, hid, hparam, -, hopen⟩ := h.held p o ho
  refine ⟨r, hr, hid, hparam, find?_of_only hr (decide_eq_true ⟨hparam, hopen⟩) fun y hy hP => ?_⟩
  obtain ⟨hp, hc⟩ := of_decide_eq_true hP
  obtain ⟨g, hg, hgid⟩ := h.opened y hy hc
  obtain rfl := Option.some.inj ((hp ▸ hg).symm.trans ho)
  exact h.eq_of_id hr hy (hgid.symm.trans hid.symm)

/-- The record that a parameter's grouping state names is of the parameter (R154). -/
theorem ExmInv.param_eq (h : ExmInv e) (ho : (e.groups.get p).current = some o) (hr : r ∈ e.records)
    (hid : r.id = o.id) : r.param = p := by
  obtain ⟨x, hx, hxid, hparam, -⟩ := h.find_open ho
  rw [h.eq_of_id hx hr (hid.trans hxid.symm)]; exact hparam

/-- URGENT is what the list says (R165). -/
theorem ExmInv.urgent_eq (h : ExmInv e) :
    (e.records.map (·.urgency)).any (fun u => decide (u = .unacked)) = e.urgent := by
  rw [Bool.eq_iff_iff, h.urgent]
  simp

end

/-! ### One close (R155) -/

section

variable {p : Param} {o : OpenGroup} {why : CloseReason} {i : Nat} {c : Int} {s t : State}

/-- The list that a close leaves, the notice it offers, and the group it empties, for the open record `r` (R155). -/
theorem closeRecord_of_found {r : ExcRecord} (ho : (s.exm.groups.get p).current = some o)
    (hfind : findRecord o.id s.exm.records = some r) (why : CloseReason) (i : Nat) (c : Int) :
    closeRecord p why i c s = offerAll (wantsLevel r.level) .exceedance (r.closedAt ⟨why, i, c⟩).words { s with
      exm := { s.exm.withRecords (updateRecord o.id (·.closedAt ⟨why, i, c⟩) s.exm.records) with
        groups := s.exm.groups.set p
          { current := none, clean := 0,
            lengthMark := if why = .length then some (i, o.side) else (s.exm.groups.get p).lengthMark },
        recordsClosed := inc16 s.exm.recordsClosed } } := by
  unfold closeRecord; dsimp only
  rw [ho]; dsimp only
  rw [findRecord_updateRecord, hfind]
  · rfl
  · exact fun _ => rfl

theorem closeRecord_closes (h : ExmInv s.exm) (ho : (s.exm.groups.get p).current = some o) (why : CloseReason) (i : Nat)
    (c : Int) : RecordCloses p o why i c s (closeRecord p why i c s) := by
  obtain ⟨r, hr, hid, -⟩ := h.find_open ho
  have hurgent : (updateRecord o.id (·.closedAt ⟨why, i, c⟩) s.exm.records).any
      (fun r => decide (r.urgency = .unacked)) = s.exm.urgent := by
    rw [← h.urgent_eq, ← map_updateRecord (f := (·.closedAt ⟨why, i, c⟩)) (fun _ => rfl) o.id, List.any_map]; rfl
  rw [closeRecord_of_found ho (hid ▸ h.find_id hr), Exm.withRecords, hurgent, inc16_eq]
  refine ⟨rfl, fun y hy hyid j => ?_, rfl⟩
  obtain rfl := h.eq_of_id hr hy (hyid.trans hid.symm)
  exact port_offerAll _ _ _ _ j

theorem closeAtLast_of_open (h : ExmInv s.exm) (ho : (s.exm.groups.get p).current = some o) (why : CloseReason) :
    RecordCloses p o why o.lastIndex o.lastChainage s (closeAtLast p why s) := by
  unfold closeAtLast; rw [ho]
  exact closeRecord_closes h ho why _ _

theorem closeAtLast_of_none (ho : (s.exm.groups.get p).current = none) (why : CloseReason) :
    closeAtLast p why s = s := by
  unfold closeAtLast; rw [ho]

/-- A close keeps the exceedance list in order (R154, R162, R165). -/
theorem RecordCloses.keeps_inv (k : RecordCloses p o why i c s t) (h : ExmInv s.exm)
    (ho : (s.exm.groups.get p).current = some o) : ExmInv t.exm := by
  have hmap {α : Type} {g : ExcRecord → α} (hg : ∀ r, g (r.closedAt ⟨why, i, c⟩) = g r) :=
    map_updateRecord hg o.id s.exm.records
  have hurgencies := hmap (g := (·.urgency)) fun _ => rfl
  have hids := hmap (g := (·.id)) fun _ => rfl
  rw [k.exm]
  refine ⟨?_, ?_, ?_, ?_, ?_, fun q g hg => ?_, OpenTracked.close h.opened ho _ _⟩
  · exact (List.length_map _).trans_le h.capacity
  · refine List.pairwise_map.mp (?_ : List.Pairwise (· < ·) _)
    exact hids.symm ▸ List.pairwise_map.mpr h.ordered
  · exact forall_updateRecord (P := fun r => r.id < s.exm.nextId) (by exact fun _ => id) h.below
  · exact forall_updateRecord (P := ExcRecord.Ok) (by exact fun _ hr => ⟨hr.minLevel, hr.maxLevel, hr.urgent⟩) h.ok
  · refine h.urgent.trans ?_
    have hmem (l : List ExcRecord) : (∃ r ∈ l, r.urgency = .unacked) ↔ .unacked ∈ l.map (·.urgency) := List.mem_map.symm
    rw [hmem, hmem]
    exact (congrArg (UrgentState.unacked ∈ ·) hurgencies).symm.to_iff
  · rw [PerParam.get_set_ite] at hg
    split at hg
    · cases hg
    · next hq =>
      obtain ⟨r, hr, hid, hparam, hside, hopen⟩ := h.held q g hg
      refine ⟨r, mem_updateRecord_of_ne hr fun e => hq ?_, hid, hparam, hside, hopen⟩
      exact hparam.symm.trans (h.param_eq ho hr e)

end

/-! ### A round of closes (R153, R171) -/

/-- A record after a close of its parameter's open record at the last exceeding point. -/
def ExcRecord.closedBy (why : CloseReason) (g : Group) (r : ExcRecord) : ExcRecord :=
  match g.current with
  | some g => if g.id = r.id then { r with closing := some ⟨why, g.lastIndex, g.lastChainage⟩ } else r
  | none => r

/-- A port after a parameter's open record has closed at its last exceeding point (R155). -/
def Exm.toldClose (e : Exm) (why : CloseReason) (q : Port) (p : Param) : Port :=
  match (e.groups.get p).current, e.records.find? (fun r => decide (r.param = p ∧ r.closing = none)) with
  | some g, some r =>
    if q.options.levelMask.getLsbD (r.level - 1) then
      q.offer { cls := .exceedance, tag := 0#8,
                payload := ({ r with closing := some ⟨why, g.lastIndex, g.lastChainage⟩ } : ExcRecord).words }
    else q
  | _, _ => q

theorem Exm.toldClose_of_none {e : Exm} {p : Param} (ho : (e.groups.get p).current = none) (why : CloseReason)
    (q : Port) : e.toldClose why q p = q := by unfold Exm.toldClose; rw [ho]

theorem Exm.toldClose_of_open {e : Exm} {p : Param} {o : OpenGroup} {r : ExcRecord}
    (ho : (e.groups.get p).current = some o)
    (hr : e.records.find? (fun r => decide (r.param = p ∧ r.closing = none)) = some r) (why : CloseReason) (q : Port) :
    e.toldClose why q p = if q.options.levelMask.getLsbD (r.level - 1) then
      q.offer { cls := .exceedance, tag := 0#8, payload := (r.closedAt ⟨why, o.lastIndex, o.lastChainage⟩).words }
    else q := by
  unfold Exm.toldClose; rw [ho, hr]; rfl

/-- `OpenRecordsClose` for the parameters of a list: the closes so far. -/
structure RecordsCloseIn (l : List Param) (why : CloseReason) (s t : State) : Prop where
  inv : ExmInv t.exm
  records : t.exm.records = s.exm.records.map fun r =>
    if r.param ∈ l then r.closedBy why (s.exm.groups.get r.param) else r
  groups : ∀ p, t.exm.groups.get p =
    if p ∈ l ∧ (s.exm.groups.get p).current.isSome then { s.exm.groups.get p with current := none, clean := 0 }
    else s.exm.groups.get p
  exm : t.exm = { s.exm with
    records := t.exm.records, groups := t.exm.groups, recordsClosed := t.exm.recordsClosed }
  told : ∀ j, t.port j = l.foldl (s.exm.toldClose why) (s.port j)
  frame : t = { s with exm := t.exm, ports := t.ports }

section

variable {l : List Param} {p : Param} {why : CloseReason} {s u : State}

theorem RecordsCloseIn.nil (h : ExmInv s.exm) : RecordsCloseIn [] why s s :=
  ⟨h, by simp, fun p => by simp, rfl, fun _ => rfl, rfl⟩

@[simp] theorem ExcRecord.closedBy_id (g : Group) (r : ExcRecord) : (r.closedBy why g).id = r.id := by
  unfold ExcRecord.closedBy
  split
  · split <;> rfl
  · rfl

/-- A parameter not yet in the list stands as it stood. -/
theorem RecordsCloseIn.group_of_not_mem (k : RecordsCloseIn l why s u) (hp : p ∉ l) :
    u.exm.groups.get p = s.exm.groups.get p := by rw [k.groups, if_neg fun e => hp e.1]

/-- The next parameter of a round has no open record: nothing happens. -/
theorem RecordsCloseIn.snoc_none (k : RecordsCloseIn l why s u) (hp : p ∉ l)
    (ho : (s.exm.groups.get p).current = none) : RecordsCloseIn (l ++ [p]) why s u where
  inv := k.inv
  records := k.records.trans <| List.map_congr_left fun r _ => by
    by_cases e : r.param = p
    · rw [if_neg (e ▸ hp), if_pos (by simp [e]), e, ExcRecord.closedBy, ho]
    · simp [e]
  groups q := (k.groups q).trans <| by
    by_cases e : q = p
    · simp [e, ho]
    · simp [e]
  exm := k.exm
  told j := by rw [k.told, List.foldl_append, List.foldl_cons, List.foldl_nil, Exm.toldClose_of_none ho]
  frame := k.frame

/-- The next parameter of a round closes its open record. -/
theorem RecordsCloseIn.snoc_open (k : RecordsCloseIn l why s u) (h : ExmInv s.exm) (hwhy : why ≠ .length) (hp : p ∉ l)
    {o : OpenGroup} (ho : (s.exm.groups.get p).current = some o) :
    RecordsCloseIn (l ++ [p]) why s (closeAtLast p why u) := by
  have hou : (u.exm.groups.get p).current = some o := by rw [k.group_of_not_mem hp, ho]
  have hclose := closeAtLast_of_open k.inv hou why
  obtain ⟨x, hx, hxid, hxparam, hfind⟩ := h.find_open ho
  refine ⟨hclose.keeps_inv k.inv hou, ?_, fun q => ?_, ?_, fun j => ?_, ?_⟩
  · rw [hclose.exm]; dsimp only
    rw [k.records, List.map_map]
    refine List.map_congr_left fun r hr => ?_
    by_cases e : r.param = p
    · simp [e, hp, ExcRecord.closedBy, ho, eq_comm]
    · have hid : r.id ≠ o.id := fun he => e (h.param_eq ho hr he)
      by_cases hl : r.param ∈ l <;> simp [e, hl, hid]
  · rw [hclose.exm]; dsimp only
    rw [PerParam.get_set_ite, if_neg hwhy, k.group_of_not_mem hp, k.groups q]
    by_cases e : q = p
    · simp [e, ho]
    · simp [e]
  · rw [hclose.exm]; dsimp only
    rw [k.exm]
  · have hxu : x ∈ u.exm.records := by
      rw [k.records]; exact List.mem_map.mpr ⟨x, hx, if_neg (hxparam ▸ hp)⟩
    rw [hclose.told x hxu hxid, k.told, List.foldl_append, List.foldl_cons, List.foldl_nil,
      Exm.toldClose_of_open ho hfind]
    rfl
  · exact hclose.frame.trans (by rw [k.frame])

end

/-- The open records of a list of parameters close one after the other at their last exceeding points (R153, R171). -/
theorem foldl_closeAtLast {l : List Param} {why : CloseReason} {s : State} (h : ExmInv s.exm) (hwhy : why ≠ .length)
    (hl : l.Nodup) : RecordsCloseIn l why s (l.foldl (fun t p => closeAtLast p why t) s) := by
  induction l using List.reverseRecOn with
  | nil => exact .nil h
  | append_singleton l p ih =>
    obtain ⟨hl, -, hp⟩ := List.nodup_append.mp hl
    have hp : p ∉ l := fun e => hp p e p List.mem_cons_self rfl
    have k := ih hl
    rw [List.foldl_append, List.foldl_cons, List.foldl_nil]
    cases ho : (s.exm.groups.get p).current with
    | none =>
      rw [closeAtLast_of_none (by rw [k.group_of_not_mem hp, ho])]
      exact k.snoc_none hp ho
    | some o => exact k.snoc_open h hwhy hp ho

theorem Param.mem_all (p : Param) : p ∈ Param.all := by cases p <;> decide

/-- A round over every parameter is what the statements say of it. -/
theorem RecordsCloseIn.openRecordsClose {why : CloseReason} {s t : State} (k : RecordsCloseIn Param.all why s t) :
    OpenRecordsClose why s t where
  records := k.records.trans <| List.map_congr_left fun r _ => if_pos (Param.mem_all r.param)
  groups p := by rw [k.groups]; simp only [Param.mem_all, true_and]
  exm := k.exm
  told := k.told
  frame := k.frame

/-- The RUN_END closes are those of every open record, at its last exceeding point (R171). -/
theorem closeAllRunEnd_closes {s : State} (h : ExmInv s.exm) : OpenRecordsClose .runEnd s (closeAllRunEnd s) :=
  (foldl_closeAtLast h (by decide) (by decide)).openRecordsClose

end Sys2Proof.Machine
end

section
/-!
PROOFS. END_RUN: its refusal, its wait in service, and the end of the run at once (R56, R83, R171, R178 to R181).
-/

namespace Sys2Proof.Machine

/-! ### What the end of a run leaves as it stood (R56, R83, R181) -/

/-- The points that C has reached stand through the tail (R83). -/
theorem completeTailAll_before {w i : Nat} {s : State} (hw : s.store.w = some w)
    (hc : s.store.c = behind (some w) s.run.settings.mMax) (hi : i + s.run.settings.mMax ≤ w) :
    (completeTailAll s).store.point i = s.store.point i := by
  obtain ⟨-, -, -, hout⟩ := completeTails_store w (w + 1 - s.run.settings.mMax)
    (w + 1 - (w + 1 - s.run.settings.mMax)) s
  unfold completeTailAll; rw [hw, hc, next_behind]
  exact hout i (by omega)

/-- The end of a run changes of GRID and INTAKE what R56 and R181 name; F and the points before the tail stand. -/
theorem finishRun_stands {w : Nat} {s : State} (hw : s.store.w = some w)
    (hc : s.store.c = behind (some w) s.run.settings.mMax) :
    (finishRun s).store.f = s.store.f ∧
      (finishRun s).grid = { s.grid with finished := true, waiting := [], deadline := none } ∧
      (finishRun s).intake = { s.intake with refTime := none } ∧
      ∀ i, i + s.run.settings.mMax ≤ w → (finishRun s).store.point i = s.store.point i := by
  obtain ⟨-, hm, -⟩ := closing_store hw hc
  obtain ⟨-, hgrid, hintake, -⟩ := closing_upstream s
  have hclose := closeAllRunEnd_tells (setStage .closing (completeTailAll s.tailing))
  rw [finishRun_eq, becomeIdle_frame]
  refine ⟨hm.f, ?_, ?_, fun i hi => (hclose.point i).trans (completeTailAll_before (s := s.tailing) hw hc hi)⟩
  · simp only [State.idled, hgrid]
  · simp only [State.idled, hintake]

/-! ### The test of FINISHING (R56) -/

theorem finishTest_of_waiting {s : State} (h : s.grid.waiting ≠ []) : finishTest s = s := if_neg fun e => h e.2

theorem finishTest_of_formed {s : State} (hr : s.run.state = .finishing .forming) (h : s.grid.waiting = []) :
    finishTest s = finishRun s := if_pos ⟨hr, h⟩

/-! ### The request in service (R179) -/

/-- The part when END_RUN is in service: the run is FINISHING in stage FORMING, and the request keeps its reservation
(R179). -/
def State.endRunTaken (s : State) (p : PortId) (r : Request) (rest : List Request) : State :=
  { s with
    run := { s.run with state := .finishing .forming, pendingEnd := some (p, r.tag) },
    ports := s.ports.set p { s.port p with
      inbox := rest, inService := some (.endRun r.tag), replies := (s.port p).replies ++ [.reserved] } }

section

variable {p : PortId} {r : Request} {rest : List Request} {s : State}

@[simp] theorem State.endRunTaken_port : (s.endRunTaken p r rest).port p = { s.port p with
    inbox := rest, inService := some (.endRun r.tag), replies := (s.port p).replies ++ [.reserved] } :=
  PerPort.get_set _ _ _

/-- END_RUN from the holder reaches its body (R179, R211). -/
theorem Serves.endRun_runs (h : Serves .endRun p r rest s) (hl : r.payload = []) (hh : s.svc.holder = some p) :
    exec (.endRun p) s = .next (endRunBody p r (s.setPort p ((s.port p).taken rest))) :=
  congrArg Host.Outcome.next (h.holder_runs (ok := exactly 0) (by rw [hl]; rfl) hh (endRunBody p))

/-- Outside RUNNING it is refused (R179). -/
theorem Serves.endRun_refused (h : Serves .endRun p r rest s) (hr : s.run.state ≠ .running) :
    endRunBody p r (s.setPort p ((s.port p).taken rest)) = s.answered p rest (refusal r .wrongState 0) :=
  (if_pos hr).trans (h.refuse_taken .wrongState 0)

/-- In RUNNING it is put in service, and GRID tests whether a created point still waits (R56, R179). -/
theorem endRunBody_taken (hr : s.run.state = .running) :
    endRunBody p r (s.setPort p ((s.port p).taken rest)) = finishTest (s.endRunTaken p r rest) := by
  refine (if_neg (not_not_intro hr)).trans (congrArg finishTest ?_)
  simp [setInService, State.endRunTaken, State.setPort, State.port, Port.taken]

end

/-! ### The statement -/

/-- Settles O51: with no point waiting, the test of FINISHING ends the run at once (`finishRun_ends`,
`finishRun_stands`); the RUN_END closes are a round of closes over the parameters (`foldl_closeAtLast`). -/
theorem endRunWaitsForItsAnswer : Obligations.EndRunWaitsForItsAnswer := by
  refine ⟨fun p r rest s h hl hh => ⟨fun hr => ?_, fun hr hw => ?_, fun w hr hwait hw hc => ?_⟩,
    fun s h => closeAllRunEnd_closes h⟩
  · rw [h.endRun_runs hl hh, h.endRun_refused hr]
  · rw [h.endRun_runs hl hh, endRunBody_taken hr, finishTest_of_waiting (s := s.endRunTaken p r rest) hw]; rfl
  · have hends : RunEnds w (s.endRunTaken p r rest) (finishRun (s.endRunTaken p r rest)) :=
      finishRun_ends (.refl _) (.refl _) rfl rfl hw hc
    obtain ⟨hf, hgrid, hintake, hbefore⟩ := finishRun_stands (s := s.endRunTaken p r rest) hw hc
    obtain ⟨hservice, hreplies⟩ := hends.answered p r.tag rfl
    refine ⟨finishRun (s.endRunTaken p r rest), ?_, hends, hf, hgrid.trans ?_, hintake, hbefore, hservice, ?_, ?_⟩
    · rw [h.endRun_runs hl hh, endRunBody_taken hr, finishTest_of_formed (s := s.endRunTaken p r rest) rfl hwait]
    · show { s.grid with finished := true, waiting := [], deadline := none } = _
      rw [← hwait]
    · rw [hends.inbox, State.endRunTaken_port]
    · rw [hreplies, State.endRunTaken_port, fillReserved_append _ _ h.unreserved]; rfl

end Sys2Proof.Machine
end

section
/-!
PROOFS. The low-speed state, the seam and the integrators at a raw point (R62 to R71).
-/

namespace Sys2Proof.Machine

/-! ### Low speed and seams (R62, R63) -/

theorem isSeam_eq (vMin : Nat) (low : LowSpeed) (rp : RawPoint) :
    isSeam vMin low rp = decide (rp.index = 0 ∨ rp.afterBacktrack = true ∨
      (low = .inside ∧ isLowSpeed vMin low rp.speed = false)) := by
  unfold isSeam
  cases isLowSpeed vMin low rp.speed <;> simp [Bool.or_assoc]

/-! ### One integrator (R66 to R69) -/

theorem beyond_eq (lo hi x : Int) : beyond lo hi x = decide (x < lo ∨ hi < x) := (Bool.decide_or _ _).symm

/-- From `i` to `j`, an integrator with its mark and its counter `m`, now `n`, follows a raw point: 0 at a seam, unchanged
at another LOWSPEED point, else stepped by the acceleration `a` and limited (R66 to R69). -/
structure Integrator.Follows (i : Integrator) (seam low : Bool) (a : Int) (leakShift : Nat) (rp : RawPoint)
    (j : Integrator) (mark : IntegMark) (m n : Nat) : Prop where
  atSeam : seam = true → j = ⟨0, 0⟩ ∧ mark = .clear ∧ n = m
  atLow : seam = false → low = true → j = i ∧ mark = .clear ∧ n = m
  elsewhere : seam = false → low = false →
    let slope := i.slope - Int.tdiv i.slope (2 ^ leakShift) + roundDiv (a * 250000000000) (rp.speed * rp.speed)
    let disp := i.disp + roundDiv j.slope 4
    let limited : Bool := decide (slope < -100000000 ∨ 100000000 < slope ∨ disp < -4611686018427387904 ∨
      4611686018427387904 < disp)
    j.slope = max (-100000000) (min 100000000 slope) ∧
      j.disp = max (-4611686018427387904) (min 4611686018427387904 disp) ∧
      mark = (if limited || rp.clampI then .clamped else if rp.statusI = .good then .clear else .held) ∧
      n = if limited then min 65535 (m + 1) else m

theorem Integrator.at_follows (i : Integrator) (seam low : Bool) (a : Int) (leakShift : Nat) (rp : RawPoint) (m : Nat) :
    i.Follows seam low a leakShift rp (i.at seam low a rp.speed leakShift).1
      (integMark seam low (i.at seam low a rp.speed leakShift).2 rp) m
      (if (i.at seam low a rp.speed leakShift).2 then inc16 m else m) := by
  refine ⟨?_, ?_, ?_⟩
  · rintro rfl; exact ⟨rfl, rfl, rfl⟩
  · rintro rfl rfl; exact ⟨rfl, rfl, rfl⟩
  · rintro rfl rfl slope disp limited
    have hlimited : (i.step a rp.speed leakShift).2 = limited := by
      simp only [Integrator.step, beyond_eq, ← Bool.decide_or, or_assoc]; rfl
    refine ⟨limit_eq (by decide) _, limit_eq (by decide) _, ?_, ?_⟩
    · rw [← hlimited]; rfl
    · rw [← hlimited, ← inc16_eq]; rfl

/-! ### The raw point in GEO (R62, R63, R66 to R71) -/

/-- Whether a raw point is LOWSPEED where the part stands (R62). -/
def State.lowAt (s : State) (rp : RawPoint) : Bool := isLowSpeed s.run.settings.vMin s.geo.low rp.speed

/-- Whether a raw point is a seam where the part stands (R63). -/
def State.seamAt (s : State) (rp : RawPoint) : Bool := isSeam s.run.settings.vMin s.geo.low rp

/-- An integrator after a raw point with an acceleration, and whether it was limited. -/
def State.integrated (s : State) (rp : RawPoint) (i : Integrator) (a : Int) : Integrator × Bool :=
  i.at (s.seamAt rp) (s.lowAt rp) a rp.speed s.run.settings.leakShift

theorem State.integrated_follows (s : State) (rp : RawPoint) (i : Integrator) (a : Int) (m : Nat) :
    i.Follows (s.seamAt rp) (s.lowAt rp) a s.run.settings.leakShift rp (s.integrated rp i a).1
      (integMark (s.seamAt rp) (s.lowAt rp) (s.integrated rp i a).2 rp) m
      (if (s.integrated rp i a).2 then inc16 m else m) :=
  i.at_follows _ _ _ _ _ _

/-- A raw point's entry in the chord history (R70, R71). -/
def State.chordEntry (s : State) (rp : RawPoint) : ChordEntry :=
  let vl := s.integrated rp s.geo.vl rp.inertial.aL
  let vr := s.integrated rp s.geo.vr rp.inertial.aR
  let lat := s.integrated rp s.geo.lat rp.inertial.aLat
  let mark (limited : Bool) : IntegMark := integMark (s.seamAt rp) (s.lowAt rp) limited rp
  { index := rp.index,
    zL := rp.headL.h * 10000 + vl.1.disp, zR := rp.headR.h * 10000 + vr.1.disp,
    yL := rp.headL.g * 10000 + lat.1.disp, yR := -rp.headR.g * 10000 + lat.1.disp,
    headL := rp.statusL, headR := rp.statusR, inertial := rp.statusI, inertialClamp := rp.clampI,
    markVL := mark vl.2, markVR := mark vr.2, markLat := mark lat.2,
    seam := s.seamAt rp, lowSpeed := s.lowAt rp }

/-- GEO after steps 1 and 2 of R61. -/
theorem geoClassify_geo (rp : RawPoint) (s : State) :
    (geoClassify rp s).geo = { s.geo with
      low := if s.lowAt rp then .inside else .outside,
      vl := (s.integrated rp s.geo.vl rp.inertial.aL).1,
      vr := (s.integrated rp s.geo.vr rp.inertial.aR).1,
      lat := (s.integrated rp s.geo.lat rp.inertial.aLat).1,
      chord := newest 161 (s.geo.chord ++ [s.chordEntry rp]),
      seams := if s.seamAt rp then inc16 s.geo.seams else s.geo.seams,
      lowEntries := if s.lowAt rp && decide (s.geo.low = .outside) then inc16 s.geo.lowEntries else s.geo.lowEntries,
      clampsVL := if (s.integrated rp s.geo.vl rp.inertial.aL).2 then inc16 s.geo.clampsVL else s.geo.clampsVL,
      clampsVR := if (s.integrated rp s.geo.vr rp.inertial.aR).2 then inc16 s.geo.clampsVR else s.geo.clampsVR,
      clampsLat :=
        if (s.integrated rp s.geo.lat rp.inertial.aLat).2 then inc16 s.geo.clampsLat else s.geo.clampsLat } := rfl

/-- The store after step 1 of R61: the point's slot takes its two flags. -/
theorem geoClassify_store (rp : RawPoint) (s : State) :
    (geoClassify rp s).store =
      s.store.write rp.index fun r => { r with seam := s.seamAt rp, lowSpeed := s.lowAt rp } := rfl

theorem geoClassify_frame (rp : RawPoint) (s : State) :
    geoClassify rp s = { s with
      geo := (geoClassify rp s).geo, store := { s.store with slots := (geoClassify rp s).store.slots } } :=
  writePoint_frame _ _ _

/-- Settles O22: each integrator by the three cases of `Integrator.at`, the slot by the one write of its flags, and GEO
field by field. -/
theorem integratorsFollowTheRawPoint : Obligations.IntegratorsFollowTheRawPoint := by
  intro rp s c g low seam up t
  have hlow : s.lowAt rp = low := isLowSpeed_eq _ _ _
  have hseam : s.seamAt rp = seam := by
    refine (isSeam_eq _ _ _).trans ?_
    rw [show isLowSpeed s.run.settings.vMin s.geo.low rp.speed = low from hlow]
  have hgeo : t.geo = _ := geoClassify_geo rp s
  have hstore : t.store = _ := geoClassify_store rp s
  refine ⟨geoClassify_frame rp s, fun x hx => ?_, fun n hn => ?_, s.chordEntry rp, ?_, ?_, ?_⟩
  · rw [hstore, Store.point_write, if_pos rfl, hx, hlow, hseam]; rfl
  · rw [hstore, Store.getSlot_write_of_ne _ _ hn]
  · intro i j a mark m n h
    suffices k : i.Follows (s.seamAt rp) (s.lowAt rp) a c.leakShift rp j mark m n by
      rw [hlow, hseam] at k; exact ⟨k.atSeam, k.atLow, k.elsewhere⟩
    rw [hgeo] at h
    simp only [List.mem_cons, Prod.mk.injEq, List.not_mem_nil, or_false] at h
    rcases h with ⟨rfl, rfl, rfl, rfl, rfl, rfl⟩ | ⟨rfl, rfl, rfl, rfl, rfl, rfl⟩ | ⟨rfl, rfl, rfl, rfl, rfl, rfl⟩
    · exact s.integrated_follows rp _ _ _
    · exact s.integrated_follows rp _ _ _
    · exact s.integrated_follows rp _ _ _
  · rw [← hlow, ← hseam, hgeo]; rfl
  · rw [hgeo, ← hlow, ← hseam]
    simp only [up, ← inc16_eq]; rfl

end Sys2Proof.Machine
end

section
/-!
PROOFS. The outcomes of a parameter, said once: a record opens, extends, is bridged or closes, and the exceedance list
stays in order (R155 to R165).
-/

namespace Sys2Proof.Machine

/-! ### The place of a new record (R163) -/

theorem evictable_iff {r : ExcRecord} : r.evictable = true ↔ r.closing ≠ none ∧ r.urgency ≠ .unacked := by
  simp [ExcRecord.evictable, Option.isSome_iff_ne_none]

theorem evictFirst_eq (l : List ExcRecord) :
    evictFirst l = if l.any (·.evictable) then some (l.eraseP (·.evictable)) else none := by
  induction l with
  | nil => rfl
  | cons r l ih =>
    unfold evictFirst
    cases hr : r.evictable
    · rw [ih, List.any_cons, List.eraseP_cons, hr]
      cases l.any (·.evictable) <;> rfl
    · simp [hr]

/-- Where a new record goes, and whether another leaves for it. -/
theorem placeFor_eq (l : List ExcRecord) :
    placeFor l = if l.length < recordCapacity then some (l, false)
      else if l.any (·.evictable) then some (l.eraseP (·.evictable), true) else none := by
  unfold placeFor
  rw [evictFirst_eq]
  cases l.any (·.evictable) <;> rfl

theorem hasPlace_iff {e : Exm} :
    e.HasPlace ↔ e.records.length < recordCapacity ∨ e.records.any (·.evictable) = true := by
  simp only [Exm.HasPlace, List.any_eq_true, evictable_iff]

theorem placeFor_of_hasPlace {e : Exm} (h : e.HasPlace) : ∃ l evicted, placeFor e.records = some (l, evicted) := by
  rw [placeFor_eq]
  split
  · exact ⟨_, _, rfl⟩
  · next hfull =>
    rw [if_pos ((hasPlace_iff.mp h).resolve_left hfull)]
    exact ⟨_, _, rfl⟩

theorem placeFor_of_no_place {e : Exm} (h : ¬e.HasPlace) : placeFor e.records = none := by
  obtain ⟨hfull, hnone⟩ := not_or.mp (mt hasPlace_iff.mpr h)
  rw [placeFor_eq, if_neg hfull, if_neg hnone]

/-- The record that leaves is the first closed one that is not UNACKED. -/
theorem placeFor_of_full {front back : List ExcRecord} {r : ExcRecord}
    (hfull : recordCapacity ≤ (front ++ r :: back).length)
    (hfront : ∀ y ∈ front, y.closing = none ∨ y.urgency = .unacked) (hclosed : r.closing ≠ none)
    (hacked : r.urgency ≠ .unacked) : placeFor (front ++ r :: back) = some (front ++ back, true) := by
  have hr : r.evictable = true := evictable_iff.mpr ⟨hclosed, hacked⟩
  have hstay : ∀ y ∈ front, ¬y.evictable = true := fun y hy he =>
    (hfront y hy).elim (evictable_iff.mp he).1 (evictable_iff.mp he).2
  rw [placeFor_eq, if_neg (Nat.not_lt.mpr hfull), if_pos (by simp [hr]), List.eraseP_append_right _ hstay,
    List.eraseP_cons_of_pos hr]

/-- No UNACKED record leaves the list. -/
theorem placeFor_unacked {l l' : List ExcRecord} {evicted : Bool} (h : placeFor l = some (l', evicted)) :
    l'.any (fun r => decide (r.urgency = .unacked)) = l.any fun r => decide (r.urgency = .unacked) := by
  have erase : (l.eraseP (·.evictable)).any (fun r => decide (r.urgency = .unacked)) =
      l.any fun r => decide (r.urgency = .unacked) := by
    rw [Bool.eq_iff_iff, List.any_eq_true, List.any_eq_true]
    refine ⟨fun ⟨r, hr, hu⟩ => ⟨r, List.mem_of_mem_eraseP hr, hu⟩, fun ⟨r, hr, hu⟩ => ⟨r, ?_, hu⟩⟩
    have hne : ¬r.evictable = true := fun he => (evictable_iff.mp he).2 (of_decide_eq_true hu)
    exact (List.mem_eraseP_of_neg hne).mpr hr
  rw [placeFor_eq] at h
  split at h
  · cases h; rfl
  · split at h
    · cases h; exact erase
    · cases h

/-! ### A record opens (R156, R164) -/

section

variable {p : Param} {level : Nat} {side : Side} {value : Int} {place : PointPlace} {s : State}

/-- EXM with a new record at the end of a list, from which another left or not. -/
def Exm.withOpened (e : Exm) (p : Param) (level : Nat) (side : Side) (value : Int) (place : PointPlace)
    (l : List ExcRecord) (evicted : Bool) : Exm :=
  { e.withRecords (l ++ [e.opened p level side value place]) with
    nextId := e.nextId + 1,
    recordsOpened := inc16 e.recordsOpened,
    evicted := if evicted then inc16 e.evicted else e.evicted,
    groups := e.groups.set p { e.groups.get p with
      current := some { id := e.nextId, side, lastIndex := place.index, lastChainage := place.chainage }, clean := 0 } }

theorem openRecord_of_place {l : List ExcRecord} {evicted : Bool} (h : placeFor s.exm.records = some (l, evicted)) :
    openRecord p level side value place s =
      if level = 3 then
        announceUrgent (s.exm.opened p level side value place)
          { s with exm := s.exm.withOpened p level side value place l evicted }
      else { s with exm := s.exm.withOpened p level side value place l evicted } := by
  unfold openRecord; rw [h]; rfl

theorem openRecord_of_no_place (h : ¬s.exm.HasPlace) :
    openRecord p level side value place s =
      { s with exm := { s.exm with dropped := min 65535 (s.exm.dropped + 1) } } := by
  unfold openRecord; rw [placeFor_of_no_place h, ← inc16_eq]

/-- URGENT after a record has opened: as it stood, or asserted by a record of level 3 (R165). -/
theorem withOpened_urgent (h : ExmInv s.exm) {l : List ExcRecord} {evicted : Bool}
    (hplace : placeFor s.exm.records = some (l, evicted)) :
    (s.exm.withOpened p level side value place l evicted).urgent = (s.exm.urgent || decide (level = 3)) := by
  have hlist : s.exm.records.any (fun r => decide (r.urgency = .unacked)) = s.exm.urgent := by
    rw [← h.urgent_eq, List.any_map]; rfl
  have hnew : decide ((s.exm.opened p level side value place).urgency = .unacked) = decide (level = 3) := by
    by_cases e : level = 3 <;> simp [Exm.opened, e]
  show (l ++ [s.exm.opened p level side value place]).any (fun r => decide (r.urgency = .unacked)) = _
  rw [List.any_append, placeFor_unacked hplace, hlist, List.any_cons, List.any_nil, Bool.or_false, hnew]

theorem openRecord_opens (h : ExmInv s.exm) (hplace : s.exm.HasPlace) :
    RecordOpens p level side value place s (openRecord p level side value place s) := by
  obtain ⟨l, evicted, hl⟩ := placeFor_of_hasPlace hplace
  have hurgent : (s.exm.withOpened p level side value place l evicted).urgent = _ := withOpened_urgent h hl
  have hroom : s.exm.records.length < recordCapacity → l = s.exm.records ∧ evicted = false := fun hlt => by
    rw [placeFor_eq, if_pos hlt] at hl; cases hl; exact ⟨rfl, rfl⟩
  have hfull {front back : List ExcRecord} {r : ExcRecord} (hcap : recordCapacity ≤ s.exm.records.length)
      (hs : s.exm.records = front ++ r :: back) (hfront : ∀ y ∈ front, y.closing = none ∨ y.urgency = .unacked)
      (hclosed : r.closing ≠ none) (hacked : r.urgency ≠ .unacked) : l = front ++ back ∧ evicted = true := by
    rw [hs, placeFor_of_full (hs ▸ hcap) hfront hclosed hacked] at hl; cases hl; exact ⟨rfl, rfl⟩
  rw [openRecord_of_place hl]
  by_cases h3 : level = 3
  · rw [if_pos h3]
    refine ⟨fun hlt => ?_, fun hcap front r back hs hfront hclosed hacked => ?_, ?_, fun j => ?_, rfl⟩
    · obtain ⟨rfl, rfl⟩ := hroom hlt; exact ⟨rfl, rfl⟩
    · obtain ⟨rfl, rfl⟩ := hfull hcap hs hfront hclosed hacked; exact ⟨rfl, inc16_eq _⟩
    · rw [← hurgent, if_pos h3, ← inc16_eq, ← inc16_eq]; rfl
    · rw [if_pos h3]; exact port_offerAll _ _ _ _ j
  · rw [if_neg h3]
    refine ⟨fun hlt => ?_, fun hcap front r back hs hfront hclosed hacked => ?_, ?_, fun j => (if_neg h3).symm, rfl⟩
    · obtain ⟨rfl, rfl⟩ := hroom hlt; exact ⟨rfl, rfl⟩
    · obtain ⟨rfl, rfl⟩ := hfull hcap hs hfront hclosed hacked; exact ⟨rfl, inc16_eq _⟩
    · rw [← hurgent, if_neg h3, ← inc16_eq]; rfl

end

/-! ### A record extends (R157, R164) -/

/-- EXM with a parameter's grouping state replaced. -/
def Exm.withGroup (e : Exm) (p : Param) (g : Group) : Exm := { e with groups := e.groups.set p g }

/-- A grouping state replaced by one that names the same open record keeps the list in order (R154). -/
theorem ExmInv.regroup {e : Exm} {p : Param} {g : Group} (h : ExmInv e)
    (hg : g.current.map (fun o => (o.id, o.side)) = (e.groups.get p).current.map fun o => (o.id, o.side)) :
    ExmInv (e.withGroup p g) := by
  refine ⟨h.capacity, h.ordered, h.below, h.ok, h.urgent, fun q o ho => ?_, OpenTracked.regroup h.opened ?_⟩
  · replace ho : ((e.groups.set p g).get q).current = some o := ho
    rw [PerParam.get_set_ite] at ho
    split at ho
    · next hq =>
      subst hq
      rw [ho] at hg
      obtain ⟨x, hx, hxo⟩ := Option.map_eq_some_iff.mp hg.symm
      obtain ⟨hid, hside⟩ := Prod.mk.inj hxo
      rw [← hid, ← hside]
      exact h.held q x hx
    · exact h.held q o ho
  · have := congrArg (Option.map Prod.fst) hg
    rwa [Option.map_map, Option.map_map] at this

section

variable {r : ExcRecord} {level : Nat} {value : Int} {index : Nat}

theorem ExcRecord.Ok.notUrgent_iff (h : r.Ok) : r.urgency = .notUrgent ↔ r.level ≠ 3 := by
  rw [ne_eq, ← h.urgent, not_not]

/-- A record that the list may hold, after a point of level 1 to 3 (R157, R164). -/
theorem ExcRecord.extend_eq_after (h : r.Ok) (hl : level ≤ 3) :
    r.extend level value index = r.after level value index := by
  have hurgency : (max r.level level = 3 ∧ r.urgency = .notUrgent) ↔ (r.level < 3 ∧ level = 3) := by
    have hmax := h.maxLevel
    rw [h.notUrgent_iff]
    omega
  simp only [ExcRecord.extend, ExcRecord.after, hurgency, decide_eq_true_eq]

theorem ExcRecord.Ok.after (h : r.Ok) (hl : level ≤ 3) : (r.after level value index).Ok := by
  obtain ⟨hmin, hmax, hurgent⟩ := h
  refine ⟨?_, ?_, ?_⟩
  · show 1 ≤ max r.level level; omega
  · show max r.level level ≤ 3; omega
  · show (if r.level < 3 ∧ level = 3 then UrgentState.unacked else r.urgency) ≠ .notUrgent ↔ max r.level level = 3
    split
    · exact iff_of_true (by decide) (by omega)
    · rw [hurgent]; omega

theorem ExcRecord.after_unacked : (r.after level value index).urgency = .unacked ↔
    r.urgency = .unacked ∨ (r.level < 3 ∧ level = 3) := by
  show (if r.level < 3 ∧ level = 3 then UrgentState.unacked else r.urgency) = .unacked ↔ _
  split <;> simp [*]

end

/-- Of a list in order, a change by id touches one record. -/
theorem ExmInv.updateRecord_congr {e : Exm} {r : ExcRecord} {i : Nat} {f g : ExcRecord → ExcRecord} (h : ExmInv e)
    (hr : r ∈ e.records) (hid : r.id = i) (hfg : f r = g r) :
    updateRecord i f e.records = updateRecord i g e.records := by
  refine List.map_congr_left fun y hy => ?_
  split
  · next hy' => rw [h.eq_of_id hr hy (hy'.trans hid.symm), hfg]
  · rfl

section

variable {p : Param} {x : OpenGroup} {r : ExcRecord} {level : Nat} {value : Int} {place : PointPlace} {s t : State}

/-- A change of a record that keeps its id, its parameter, its side and whether it is open keeps the list in order, with
the URGENT line that the changed list asks for (R154, R162, R165). -/
theorem ExmInv.withRecord {e : Exm} {f : ExcRecord → ExcRecord} (h : ExmInv e) (hr : r ∈ e.records) (hok : (f r).Ok)
    (hf : ∀ y, (f y).id = y.id ∧ (f y).param = y.param ∧ (f y).side = y.side ∧ (f y).closing = y.closing) (n : Nat) :
    ExmInv { e.withRecords (updateRecord r.id f e.records) with urgentRecords := n } := by
  have hids := map_updateRecord (g := (·.id)) (fun y => (hf y).1) r.id e.records
  refine ⟨?_, ?_, ?_, fun y hy => ?_, ?_, fun q o ho => ?_, ?_⟩
  · exact (List.length_map _).trans_le h.capacity
  · refine List.pairwise_map.mp (?_ : List.Pairwise (· < ·) _)
    exact hids.symm ▸ List.pairwise_map.mpr h.ordered
  · exact forall_updateRecord (P := fun y => y.id < e.nextId) (fun y hy => (hf y).1.symm ▸ hy) h.below
  · obtain ⟨z, hz, rfl⟩ := List.mem_map.mp hy
    split
    · next hid => rw [h.eq_of_id hr hz hid]; exact hok
    · exact h.ok z hz
  · simp [Exm.withRecords]
  · obtain ⟨y, hy, hid, hparam, hside, hopen⟩ := h.held q o ho
    obtain ⟨fid, fparam, fside, fopen⟩ := hf y
    by_cases e : y.id = r.id
    · exact ⟨f y, List.mem_map.mpr ⟨y, hy, if_pos e⟩, fid.trans hid, fparam.trans hparam, fside.trans hside,
        fopen.trans hopen⟩
    · exact ⟨y, mem_updateRecord_of_ne hy e, hid, hparam, hside, hopen⟩
  · exact OpenTracked.update h.opened r.id fun y => ⟨(hf y).1, (hf y).2.1, (hf y).2.2.2⟩

/-- EXM with a parameter's open record extended by a point. -/
def Exm.withExtended (e : Exm) (p : Param) (x : OpenGroup) (r : ExcRecord) (level : Nat) (value : Int)
    (place : PointPlace) : Exm :=
  ({ e.withRecords (updateRecord x.id (·.after level value place.index) e.records) with
      urgentRecords := if r.level < 3 ∧ level = 3 then inc16 e.urgentRecords else e.urgentRecords } : Exm).withGroup p
    { e.groups.get p with
      current := some { x with lastIndex := place.index, lastChainage := place.chainage }, clean := 0 }

/-- URGENT after a record has been extended: as it stood, or asserted by a record that reaches level 3 (R165). -/
theorem withExtended_urgent (h : ExmInv s.exm) (hr : r ∈ s.exm.records) (hid : r.id = x.id) :
    (s.exm.withExtended p x r level value place).urgent = (s.exm.urgent || decide (r.level < 3 ∧ level = 3)) := by
  have hiff : (∃ y ∈ updateRecord x.id (·.after level value place.index) s.exm.records, y.urgency = .unacked) ↔
      (∃ y ∈ s.exm.records, y.urgency = .unacked) ∨ (r.level < 3 ∧ level = 3) := by
    constructor
    · rintro ⟨y, hy, hu⟩
      obtain ⟨z, hz, rfl⟩ := List.mem_map.mp hy
      split at hu
      · next hzid =>
        obtain rfl := h.eq_of_id hr hz (hzid.trans hid.symm)
        exact (ExcRecord.after_unacked.mp hu).imp_left fun hu => ⟨z, hz, hu⟩
      · exact .inl ⟨z, hz, hu⟩
    · have hafter : r.after level value place.index ∈
          updateRecord x.id (·.after level value place.index) s.exm.records := List.mem_map.mpr ⟨r, hr, if_pos hid⟩
      rintro (⟨y, hy, hu⟩ | h3)
      · by_cases hyid : y.id = x.id
        · obtain rfl := h.eq_of_id hr hy (hyid.trans hid.symm)
          exact ⟨_, hafter, ExcRecord.after_unacked.mpr (.inl hu)⟩
        · exact ⟨y, mem_updateRecord_of_ne hy hyid, hu⟩
      · exact ⟨_, hafter, ExcRecord.after_unacked.mpr (.inr h3)⟩
  rw [Bool.eq_iff_iff, Bool.or_eq_true, decide_eq_true_eq, h.urgent, ← hiff]
  simp [Exm.withExtended, Exm.withGroup, Exm.withRecords]

theorem withExtended_inv (h : ExmInv s.exm) (hx : (s.exm.groups.get p).current = some x) (hr : r ∈ s.exm.records)
    (hid : r.id = x.id) (hl : level ≤ 3) : ExmInv (s.exm.withExtended p x r level value place) := by
  unfold Exm.withExtended
  rw [← hid]
  refine (h.withRecord hr ((h.ok r hr).after hl) (fun y => ?_) _).regroup ?_
  · exact ⟨rfl, rfl, rfl, rfl⟩
  · show _ = (s.exm.groups.get p).current.map _
    simp [hx, hid]

/-- The part after a point has extended a parameter's open record `r`, before the test of its length (R157, R164). -/
def State.extended (s : State) (p : Param) (x : OpenGroup) (r : ExcRecord) (level : Nat) (value : Int)
    (place : PointPlace) : State :=
  let t : State := { s with exm := s.exm.withExtended p x r level value place }
  if r.level < 3 ∧ level = 3 then offerAll everyPort .urgent (r.after level value place.index).words t else t

@[simp] theorem State.extended_exm :
    (s.extended p x r level value place).exm = s.exm.withExtended p x r level value place := by
  unfold State.extended; dsimp only; split <;> rfl

theorem extended_extends (h : ExmInv s.exm) (hr : r ∈ s.exm.records) (hid : r.id = x.id) :
    RecordExtends p x r level value place s (s.extended p x r level value place) where
  exm := by
    have hrecords : s.exm.records.map (fun y => if y.id = x.id then r.after level value place.index else y) =
        updateRecord x.id (·.after level value place.index) s.exm.records :=
      h.updateRecord_congr (f := fun _ => r.after level value place.index) hr hid rfl
    rw [State.extended_exm, ← withExtended_urgent (p := p) (value := value) (place := place) h hr hid, ← inc16_eq,
      hrecords]
    rfl
  told j := by
    unfold State.extended; dsimp only
    split
    · exact port_offerAll _ _ _ _ j
    · rfl
  frame := by unfold State.extended; dsimp only; split <;> rfl

/-- What extending does with a record `r` that becomes `r'`. -/
theorem extendRecord_of_found (hfind : findRecord x.id s.exm.records = some r) :
    extendRecord p x level value place s =
      let r' := r.extend level value place.index
      let t : State := { s with
        exm := { s.exm.withRecords (updateRecord x.id (·.extend level value place.index) s.exm.records) with
          groups := s.exm.groups.set p { s.exm.groups.get p with
            current := some { x with lastIndex := place.index, lastChainage := place.chainage }, clean := 0 } } }
      let u := if r.urgency = .notUrgent ∧ r'.urgency = .unacked then announceUrgent r' t else t
      if r.startIndex + s.run.settings.maxRecordPoints - 1 ≤ place.index then
        closeRecord p .length place.index place.chainage u
      else u := by
  unfold extendRecord; rw [hfind]

/-- An exceeding point on the side of the open record extends it, and closes it with LENGTH at its length (R157, R158). -/
theorem extendRecord_eq (h : ExmInv s.exm) (hr : r ∈ s.exm.records) (hid : r.id = x.id) (hl : level ≤ 3) :
    extendRecord p x level value place s =
      if r.startIndex + s.run.settings.maxRecordPoints - 1 ≤ place.index then
        closeRecord p .length place.index place.chainage (s.extended p x r level value place)
      else s.extended p x r level value place := by
  have hafter := ExcRecord.extend_eq_after (value := value) (index := place.index) (h.ok r hr) hl
  have hnew : (r.urgency = .notUrgent ∧ (r.after level value place.index).urgency = .unacked) ↔
      (r.level < 3 ∧ level = 3) := by
    rw [ExcRecord.after_unacked, (h.ok r hr).notUrgent_iff]
    have hmax := (h.ok r hr).maxLevel
    constructor
    · rintro ⟨hlow, hu | h3⟩
      · exact absurd ((h.ok r hr).notUrgent_iff.mpr hlow) (by rw [hu]; decide)
      · exact h3
    · exact fun h3 => ⟨by omega, .inr h3⟩
  rw [extendRecord_of_found (hid ▸ h.find_id hr),
    h.updateRecord_congr (g := (·.after level value place.index)) hr hid hafter, hafter]
  dsimp only
  rw [if_congr hnew rfl rfl]
  unfold State.extended Exm.withExtended
  by_cases h3 : r.level < 3 ∧ level = 3
  · simp only [if_pos h3]; rfl
  · simp only [if_neg h3]; rfl

end

/-! ### A record is bridged or closes (R155, R157 to R161) -/

section

variable {p : Param} {x : OpenGroup} {level : Nat} {side : Side} {value : Int} {place : PointPlace} {s : State}

theorem applyOutcome_of_none (hx : (s.exm.groups.get p).current = none) {o : ParamOutcome}
    (ho : o = .suppressed ∨ o = .void ∨ o = .within) : applyOutcome p o value place s = s := by
  rcases ho with rfl | rfl | rfl
  · exact closeAtLast_of_none hx _
  · exact closeAtLast_of_none hx _
  · simp only [applyOutcome, bridge, hx]

theorem applyOutcome_opens (hx : (s.exm.groups.get p).current = none) :
    applyOutcome p (.exceeds level side) value place s = openRecord p level side value place s := by
  simp only [applyOutcome, hx]

theorem applyOutcome_extends (hx : (s.exm.groups.get p).current = some x) (hside : x.side = side) :
    applyOutcome p (.exceeds level side) value place s = extendRecord p x level value place s := by
  simp only [applyOutcome, hx, if_pos hside]

theorem applyOutcome_turns (hx : (s.exm.groups.get p).current = some x) (hside : x.side ≠ side) :
    applyOutcome p (.exceeds level side) value place s =
      openRecord p level side value place (closeAtLast p .side s) := by
  simp only [applyOutcome, hx, if_neg hside]

theorem bridge_of_open (hx : (s.exm.groups.get p).current = some x) :
    bridge p s =
      let t := setGroup p { s.exm.groups.get p with clean := (s.exm.groups.get p).clean + 1 } s
      if s.run.settings.gapTol < (s.exm.groups.get p).clean + 1 then closeAtLast p .below t else t := by
  unfold bridge; simp only [hx]

/-- A close after a change of the clean count alone is a close. -/
theorem closeAtLast_setGroup {g : Group} (h : ExmInv s.exm) (hx : (s.exm.groups.get p).current = some x)
    (hg : g.current = some x) (hmark : g.lengthMark = (s.exm.groups.get p).lengthMark) (why : CloseReason) :
    RecordCloses p x why x.lastIndex x.lastChainage s (closeAtLast p why (setGroup p g s)) := by
  have hset : (setGroup p g s).exm.groups.get p = g := PerParam.get_set _ _ _
  have hclose := closeAtLast_of_open (s := setGroup p g s) (h.regroup (g := g) (by rw [hg, hx])) (hset ▸ hg) why
  refine ⟨hclose.exm.trans ?_, hclose.told, hclose.frame⟩
  rw [hset, hmark]
  simp [setGroup]

/-- A clean point beyond gap_tol closes the record with BELOW at its last exceeding point (R159). -/
theorem bridge_closes (h : ExmInv s.exm) (hx : (s.exm.groups.get p).current = some x)
    (hgap : s.run.settings.gapTol < (s.exm.groups.get p).clean + 1) :
    RecordCloses p x .below x.lastIndex x.lastChainage s (bridge p s) := by
  rw [bridge_of_open hx]; dsimp only
  rw [if_pos hgap]
  exact closeAtLast_setGroup (g := { s.exm.groups.get p with clean := (s.exm.groups.get p).clean + 1 }) h hx hx rfl .below

/-- A record at its length closes with LENGTH at the point that has just extended it (R158). -/
theorem extended_closes {r : ExcRecord} (h : ExmInv s.exm) (hx : (s.exm.groups.get p).current = some x)
    (hr : r ∈ s.exm.records) (hid : r.id = x.id) (hl : level ≤ 3) :
    RecordCloses p x .length place.index place.chainage (s.extended p x r level value place)
      (closeRecord p .length place.index place.chainage (s.extended p x r level value place)) := by
  have hclose := closeRecord_closes (p := p) (s := s.extended p x r level value place)
    (o := { x with lastIndex := place.index, lastChainage := place.chainage })
    (by rw [State.extended_exm]; exact withExtended_inv h hx hr hid hl)
    (by rw [State.extended_exm]; exact congrArg Group.current (PerParam.get_set _ _ _))
    .length place.index place.chainage
  exact ⟨hclose.exm, hclose.told, hclose.frame⟩

end

end Sys2Proof.Machine
end

section
/-!
PROOFS. The completion of a point (R81, R92, R136, R151 to R153): the streams that are tested at the advance of C leave
EXM and the slots alone, the outcomes of the parameters leave the store and the counts of points alone, and the slot takes
the classification.
-/

namespace Sys2Proof.Machine

/-! ### The streams at the advance of C (R103) -/

theorem endStream_exm (p : PortId) (why : StreamEnd) (s : State) : (endStream p why s).exm = s.exm := by
  unfold endStream; split <;> rfl

theorem afterPoints_exm (p : PortId) (s : State) : (afterPoints p s).exm = s.exm := by
  unfold afterPoints; split
  · split
    · exact endStream_exm _ _ _
    · unfold runOverTest; split
      · split
        · exact endStream_exm _ _ _
        · rfl
      · rfl
  · rfl

theorem buildPoints_exm (n : Nat) (p : PortId) (s : State) : (buildPoints n p s).exm = s.exm := by
  induction n generalizing s with
  | zero => rfl
  | succ n ih =>
    unfold buildPoints; split
    · dsimp only; split
      · rfl
      · exact (ih _).trans ((afterPoints_exm _ _).trans rfl)
    · rfl

theorem streamBuildAll_exm (s : State) : (streamBuildAll s).exm = s.exm := by
  simp only [streamBuildAll, PortId.all, List.foldl_cons, List.foldl_nil, streamBuild, buildPoints_exm]

/-- The test of the streams changes streams and ports alone. -/
theorem streamBuildAll_frame (s : State) :
    streamBuildAll s = { s with
      store := { s.store with streams := (streamBuildAll s).store.streams }, ports := (streamBuildAll s).ports } := by
  conv_lhs => rw [(streamBuildAll_tells s).frame, streamBuildAll_exm]

/-! ### The outcomes of a point -/

/-- What the outcomes of a point leave as it stands: the store and EXM's counts of points. -/
def State.counts (s : State) : Store × Nat × Nat × Nat :=
  (s.store, s.exm.pointsJudged, s.exm.exceedingPoints, s.exm.suppressedPoints)

theorem closeRecord_counts (p : Param) (why : CloseReason) (i : Nat) (c : Int) (s : State) :
    (closeRecord p why i c s).counts = s.counts := by
  unfold closeRecord; dsimp only; split
  · rfl
  · split <;> rfl

theorem closeAtLast_counts (p : Param) (why : CloseReason) (s : State) : (closeAtLast p why s).counts = s.counts := by
  unfold closeAtLast; split
  · exact closeRecord_counts _ _ _ _ _
  · rfl

theorem openRecord_counts (p : Param) (l : Nat) (d : Side) (v : Int) (at' : PointPlace) (s : State) :
    (openRecord p l d v at' s).counts = s.counts := by
  unfold openRecord; dsimp only; split
  · rfl
  · split <;> rfl

theorem extendRecord_counts (p : Param) (o : OpenGroup) (l : Nat) (v : Int) (at' : PointPlace) (s : State) :
    (extendRecord p o l v at' s).counts = s.counts := by
  unfold extendRecord; dsimp only; split
  · rfl
  · split
    · refine (closeRecord_counts p _ _ _ _).trans ?_; split <;> rfl
    · split <;> rfl

theorem bridge_counts (p : Param) (s : State) : (bridge p s).counts = s.counts := by
  unfold bridge; dsimp only; split
  · rfl
  · split
    · exact (closeAtLast_counts _ _ _).trans rfl
    · rfl

theorem applyOutcome_counts (p : Param) (o : ParamOutcome) (v : Int) (at' : PointPlace) (s : State) :
    (applyOutcome p o v at' s).counts = s.counts := by
  unfold applyOutcome; split
  · exact closeAtLast_counts _ _ _
  · exact closeAtLast_counts _ _ _
  · exact bridge_counts _ _
  · split
    · exact openRecord_counts _ _ _ _ _ _
    · split
      · exact extendRecord_counts _ _ _ _ _ _
      · exact (openRecord_counts _ _ _ _ _ _).trans (closeAtLast_counts _ _ _)

/-! ### The judgement of a held point (R136, R151, R152) -/

/-- The classification of a point where the part stands (R136). -/
def State.classOf (s : State) (x : PointRec) : Classification :=
  classify s.run.settings.defaultClass s.cls.sections x.chainage

/-- The outcome of a parameter of a point where the part stands (R151). -/
def State.outcome (s : State) (x : PointRec) (p : Param) : ParamOutcome :=
  outcomeOf (s.cls.thresholds.get (s.classOf x).trackClass) (s.classOf x).mask x p

/-- The part after the lookup of a point and the outcomes of its parameters, in ascending order (R136, R151). -/
@[irreducible] def State.grouped (s : State) (x : PointRec) : State :=
  Param.all.foldl (fun t p => applyOutcome p (s.outcome x p) (x.values.get p)
    { index := x.index, chainage := x.chainage, sectionId := (s.classOf x).sectionId } t)
    { s with cls := s.cls.counted x.chainage }

theorem State.grouped_counts (s : State) (x : PointRec) : (s.grouped x).counts = s.counts := by
  unfold State.grouped Param.all
  simp only [List.foldl_cons, List.foldl_nil, applyOutcome_counts]; rfl

/-- The highest level of a point's parameters (R152). -/
@[irreducible] def State.highest (s : State) (x : PointRec) : Nat :=
  Param.all.foldl (fun m p => max m (s.outcome x p).level) 0

/-- A running maximum bounds its terms, and is one of them or where it began. -/
theorem foldl_max_spec {α : Type} (f : α → Nat) (l : List α) (a : Nat) :
    a ≤ l.foldl (fun m x => max m (f x)) a ∧ (∀ x ∈ l, f x ≤ l.foldl (fun m x => max m (f x)) a) ∧
      (l.foldl (fun m x => max m (f x)) a = a ∨ ∃ x ∈ l, f x = l.foldl (fun m x => max m (f x)) a) := by
  induction l generalizing a with
  | nil => exact ⟨Nat.le_refl a, fun x hx => absurd hx List.not_mem_nil, .inl rfl⟩
  | cons y l ih =>
    obtain ⟨hstart, hbound, hreached⟩ := ih (max a (f y))
    rw [List.foldl_cons]
    refine ⟨(Nat.le_max_left _ _).trans hstart, ?_, ?_⟩
    · rintro x (_ | ⟨_, hx⟩)
      · exact (Nat.le_max_right _ _).trans hstart
      · exact hbound x hx
    · rcases hreached with he | ⟨x, hx, hfx⟩
      · rcases Nat.le_total (f y) a with hle | hle
        · exact .inl (he.trans (Nat.max_eq_left hle))
        · exact .inr ⟨y, List.mem_cons_self, (he.trans (Nat.max_eq_right hle)).symm⟩
      · exact .inr ⟨x, List.mem_cons_of_mem _ hx, hfx⟩

theorem State.highest_spec (s : State) (x : PointRec) :
    (∀ p, (s.outcome x p).level ≤ s.highest x) ∧ (s.highest x = 0 ∨ ∃ p, (s.outcome x p).level = s.highest x) := by
  obtain ⟨-, hbound, hreached⟩ := foldl_max_spec (fun p => (s.outcome x p).level) Param.all 0
  unfold State.highest
  exact ⟨fun p => hbound p (Param.mem_all p), hreached.imp_right fun ⟨p, _, hp⟩ => ⟨p, hp⟩⟩

/-- The judgement of a held point: its outcomes applied, the point counted, its slot classified. -/
theorem judgeHeld_eq (x : PointRec) (s : State) :
    judgeHeld x s = { s.grouped x with
      exm := { (s.grouped x).exm with
        pointsJudged := inc16 s.exm.pointsJudged,
        exceedingPoints := if 1 ≤ s.highest x then inc16 s.exm.exceedingPoints else s.exm.exceedingPoints,
        suppressedPoints := if (s.classOf x).mask ≠ 0#8 then inc16 s.exm.suppressedPoints else s.exm.suppressedPoints },
      store := s.store.write x.index (·.judged (s.classOf x) (s.highest x)) } := by
  have hcounts := s.grouped_counts x
  generalize hu : s.grouped x = u at hcounts ⊢
  generalize hh : s.highest x = h
  unfold State.grouped State.outcome State.classOf at hu
  unfold State.highest State.outcome State.classOf at hh
  simp only [State.counts, Prod.mk.injEq] at hcounts
  obtain ⟨hstore, hpoints, hexceeding, hsuppressed⟩ := hcounts
  rw [← hstore, ← hpoints, ← hexceeding, ← hsuppressed]
  unfold judgeHeld; dsimp only
  rw [hu, hh]
  simp only [decide_eq_true_eq]
  rfl

/-- The store with a held point classified and readable (R81, R152). -/
def Store.classified (st : Store) (x : PointRec) (k : Classification) (highest : Nat) : Store :=
  (st.write x.index (·.judged k highest)).write x.index fun r => { r with readable := true }

section

variable {st : Store} {x : PointRec} {k : Classification} {highest : Nat}

/-- The slot of a classified point holds it so (R152). -/
theorem Store.point_classified (h : st.point x.index = some x) :
    (st.classified x k highest).point x.index = some { x.judged k highest with readable := true } := by
  rw [Store.classified, Store.point_write, if_pos rfl, Store.point_write, if_pos rfl, h]; rfl

/-- Every other slot is as it was (R92). -/
theorem Store.getSlot_classified {n : Nat} (hn : n ≠ slotOf x.index) :
    getSlot n (st.classified x k highest).slots = getSlot n st.slots := by
  rw [Store.classified, Store.getSlot_write_of_ne _ _ hn, Store.getSlot_write_of_ne _ _ hn]

theorem Store.classified_frame (st : Store) (x : PointRec) (k : Classification) (highest : Nat) :
    st.classified x k highest = { st with slots := (st.classified x k highest).slots } := by
  unfold Store.classified
  refine (Store.write_frame _ _ _).trans ?_
  simp only [Store.write_w, Store.write_f, Store.write_c, Store.write_overwritten, Store.write_streams]

end

/-- Where a point stands is a matter of the slots (R92). -/
theorem Store.point_congr {a b : Store} (h : a.slots = b.slots) (k : Nat) : a.point k = b.point k := by
  unfold Store.point; rw [h]

/-- The part after a held point has been completed, before the streams are tested (R81, R152). -/
def State.completed (s : State) (x : PointRec) : State :=
  { s.grouped x with
    exm := { (s.grouped x).exm with
      pointsJudged := inc16 s.exm.pointsJudged,
      exceedingPoints := if 1 ≤ s.highest x then inc16 s.exm.exceedingPoints else s.exm.exceedingPoints,
      suppressedPoints := if (s.classOf x).mask ≠ 0#8 then inc16 s.exm.suppressedPoints else s.exm.suppressedPoints },
    store := { s.store.classified x (s.classOf x) (s.highest x) with c := some x.index } }

theorem completePoint_eq {s : State} {x : PointRec} (h : s.store.point x.index = some x) :
    completePoint x.index s = streamBuildAll (s.completed x) := by
  rw [completePoint_of_held h, judgeHeld_eq]; rfl

/-! ### A point that was overwritten (R92, R153) -/

/-- The part after an overwritten point has been completed, before the streams are tested. -/
def State.passedOver (s : State) (j : Nat) : State :=
  let t := judgeLost { s with store := { s.store with overwritten := inc16 s.store.overwritten } }
  { t with store := { t.store with c := some j } }

/-- The closes of an overwritten point, which is counted and not looked up. -/
theorem passedOver_closes {s : State} (h : ExmInv s.exm) (j : Nat) :
    ∃ v, OpenRecordsClose .void s v ∧ s.passedOver j = { v with
      exm := { v.exm with pointsJudged := min 65535 (s.exm.pointsJudged + 1) },
      store := { s.store with c := some j, overwritten := min 65535 (s.store.overwritten + 1) } } := by
  have k := (foldl_closeAtLast (l := Param.all) (why := .void)
    (s := { s with store := { s.store with overwritten := inc16 s.store.overwritten } }) h (by decide)
    (by decide)).openRecordsClose
  generalize hu : List.foldl _ { s with store := { s.store with overwritten := inc16 s.store.overwritten } } Param.all = u
    at k
  have hstore : u.store = { s.store with overwritten := inc16 s.store.overwritten } := by rw [k.frame]
  have hjudged : u.exm.pointsJudged = s.exm.pointsJudged := by rw [k.exm]
  refine ⟨{ u with store := s.store }, ⟨k.records, k.groups, k.exm, k.told, ?_⟩, ?_⟩
  · rw [k.frame]
  · have hlost : judgeLost { s with store := { s.store with overwritten := inc16 s.store.overwritten } } =
        { u with exm := { u.exm with pointsJudged := inc16 u.exm.pointsJudged } } := by rw [← hu]; rfl
    unfold State.passedOver; dsimp only
    rw [hlost, hstore, hjudged, inc16_eq, inc16_eq]

/-! ### The lookup (R136) -/

theorem SectionEntry.holds_iff {e : SectionEntry} {c : Int} : e.holds c = true ↔ e.start ≤ c ∧ c < e.stop := by
  simp [SectionEntry.holds]

theorem classify_of_held {default : Nat} {l : List SectionEntry} {e : SectionEntry} {c : Int}
    (h : l.Pairwise fun a b => a.stop ≤ b.start) (he : e ∈ l) (hstart : e.start ≤ c) (hstop : c < e.stop) :
    classify default l c = { sectionId := e.id, trackClass := e.trackClass, mask := e.mask.getD 0#8 } := by
  have hfind : l.find? (·.holds c) = some e := by
    induction l with
    | nil => cases he
    | cons d l ih =>
      obtain ⟨hd, hl⟩ := List.pairwise_cons.mp h
      rcases List.mem_cons.mp he with rfl | he
      · exact List.find?_cons_of_pos (SectionEntry.holds_iff.mpr ⟨hstart, hstop⟩)
      · have hbefore : ¬d.holds c = true := fun k => by
          have := SectionEntry.holds_iff.mp k
          have := hd e he
          omega
        exact (List.find?_cons_of_neg (p := fun d : SectionEntry => d.holds c) hbefore).trans (ih hl he)
  unfold classify; rw [hfind]

theorem classify_of_free {default : Nat} {l : List SectionEntry} {c : Int} (hdefault : default ≤ 7)
    (h : ∀ e ∈ l, c < e.start ∨ e.stop ≤ c) :
    (classify default l c).sectionId = 0 ∧ (classify default l c).trackClass.val = default ∧
      (classify default l c).mask = 0#8 := by
  have hfind : l.find? (·.holds c) = none := List.find?_eq_none.mpr fun e he k => by
    have := SectionEntry.holds_iff.mp k
    have := h e he
    omega
  unfold classify; rw [hfind]
  exact ⟨rfl, Nat.mod_eq_of_lt (Nat.lt_succ_of_le hdefault), rfl⟩

/-- One of the two lookup counters rises (R136). -/
theorem counted_eq (t : Cls) (c : Int) :
    t.counted c = if t.sections.any (fun e => decide (e.start ≤ c ∧ c < e.stop)) then
        { t with inSection := min 65535 (t.inSection + 1) }
      else { t with defaulted := min 65535 (t.defaulted + 1) } := by
  simp only [Cls.counted, SectionEntry.holds, Bool.decide_and, inc16_eq]

/-- The level of a parameter: 0 where it is suppressed or VOID, else that of its value (R144, R151). -/
theorem outcomeOf_level (limits : PerParam Limits) (mask : BitVec 8) (x : PointRec) (p : Param) :
    (outcomeOf limits mask x p).level =
      if mask.getLsbD p.code ∨ x.statuses.get p = .void then 0
      else (((limits.get p).judge (x.values.get p)).map (·.1)).getD 0 := by
  unfold outcomeOf
  by_cases hmask : mask.getLsbD p.code = true
  · rw [if_pos hmask, if_pos (.inl hmask)]; rfl
  · by_cases hvoid : x.statuses.get p = .void
    · rw [if_neg hmask, if_pos hvoid, if_pos (.inr hvoid)]; rfl
    · rw [if_neg hmask, if_neg hvoid, if_neg (not_or.mpr ⟨hmask, hvoid⟩)]
      cases (limits.get p).judge (x.values.get p) <;> rfl

/-! ### The statement -/

/-- Settles O25: a held point by `completePoint_eq` and the writes of its slot, a lost one by a round of closes, the
lookup by the order of the sections, and each outcome by what it does to the open record of its parameter. -/
theorem completionMakesThePointReadable : Obligations.CompletionMakesThePointReadable := by
  refine ⟨?_, fun default l c hl hdefault => ⟨fun e he => classify_of_held hl he, classify_of_free hdefault⟩, ?_⟩
  · intro j s up t
    cases hx : s.store.point j with
    | some x =>
      obtain rfl := (Store.point_eq_some.mp hx).2
      have ht : t = streamBuildAll (s.completed x) := completePoint_eq hx
      refine ⟨s.completed x, ht, rfl, ht ▸ streamBuildAll_frame _, fun y hy => ?_, fun hn => nomatch hn⟩
      obtain rfl := Option.some.inj hy
      intro k limits level outcome found looked v
      have hlevel (p : Param) : (s.outcome x p).level = level p := outcomeOf_level _ _ _ _
      have hlooked : s.cls.counted x.chainage = looked := counted_eq _ _
      have hv : s.grouped x = v := by
        unfold State.grouped
        rw [hlooked]; rfl
      obtain ⟨hbound, hreached⟩ := s.highest_spec x
      simp only [hlevel] at hbound hreached
      have hslots : (s.completed x).store.slots = (s.store.classified x (s.classOf x) (s.highest x)).slots := rfl
      refine ⟨s.highest x, hbound, hreached, ?_, (Store.point_congr hslots _).trans ?_, ?_⟩
      · have hstore : (s.completed x).store =
            { s.store with c := some x.index, slots := (s.completed x).store.slots } := by
          rw [hslots]; exact congrArg (fun st : Store => { st with c := some x.index }) (s.store.classified_frame _ _ _)
        rw [← hstore, ← hv]
        simp only [up, ← inc16_eq]
        rfl
      · exact Store.point_classified hx
      · rw [hslots]; exact fun n => Store.getSlot_classified
    | none =>
      have ht : t = streamBuildAll (s.passedOver j) := completePoint_of_lost hx
      exact ⟨s.passedOver j, ht, rfl, ht ▸ streamBuildAll_frame _, fun y hy => (nomatch hy),
        fun _ h => passedOver_closes h j⟩
  · intro p o value place s h g dropped t
    refine ⟨fun hnone ho => applyOutcome_of_none hnone ho, ?_, fun x hx => ?_⟩
    · rintro level side rfl - - hx
      have hopen : t = openRecord p level side value place s := applyOutcome_opens hx
      rw [hopen]
      exact ⟨openRecord_opens h, openRecord_of_no_place⟩
    · refine ⟨?_, ?_, ?_, ?_, ?_⟩
      · rintro rfl; exact closeAtLast_of_open h hx _
      · rintro rfl; exact closeAtLast_of_open h hx _
      · rintro rfl hgap
        exact (bridge_of_open hx).trans (if_neg (Nat.not_lt.mpr hgap))
      · rintro rfl hgap; exact bridge_closes h hx hgap
      · rintro level side r rfl - hl hr hid
        refine ⟨fun hside => ?_, fun hside => ?_⟩
        · have hext : t = _ := (applyOutcome_extends hx hside).trans (extendRecord_eq h hr hid hl)
          refine ⟨s.extended p x r level value place, extended_extends h hr hid, fun hlt => ?_, fun hle => ?_⟩
          · exact hext.trans (if_neg (Nat.not_le.mpr hlt))
          · rw [hext, if_pos hle]
            exact extended_closes h hx hr hid hl
        · have hturn : t = openRecord p level side value place (closeAtLast p .side s) := applyOutcome_turns hx hside
          have hclose := closeAtLast_of_open h hx .side
          rw [hturn]
          exact ⟨_, hclose, openRecord_opens (hclose.keeps_inv h hx), openRecord_of_no_place⟩

end Sys2Proof.Machine
end

section
/-!
PROOFS. The streams of STORE, one operation at a time: how a stream ends, when a POINTS frame is due and what building
one leaves, and what a gap does (R102 to R107).
-/

namespace Sys2Proof.Machine

/-! ### One stream and one port replaced -/

@[simp] theorem setStream_setStream (p : PortId) (x y : Option Stream) (s : State) :
    setStream p y (setStream p x s) = setStream p y s := by simp [setStream]

@[simp] theorem setStream_stream_self (p : PortId) (s : State) : setStream p (s.stream p) s = s := by
  simp [setStream, State.stream]

theorem setStream_setPort (p : PortId) (x : Option Stream) (q : Port) (s : State) :
    (setStream p x s).setPort p q = setStream p x (s.setPort p q) := rfl

theorem addSat32_eq (n k : Nat) : addSat32 n k = min 4294967295 (n + k) := by
  unfold addSat32; split <;> omega

/-- The oldest retained index of a store that is not empty (R90). -/
theorem Store.oldest_of_some {st : Store} {w : Nat} (h : st.w = some w) : st.oldest = some (w - 4095) := by
  have hsize : ringSize - 1 = 4095 := rfl
  rw [Store.oldest, h, Option.map_some, hsize]

/-- A notice that an ACTIVE port has room for stands last in its queue (R205). -/
theorem Port.offer_notices {q : Port} (h : q.state = .active) (hroom : q.notices.length < 16) (n : Notice) :
    (q.offer n).notices = q.notices ++ [n] := by
  have hn : (q.attend n.cls).notices = q.notices := by unfold Port.attend; split <;> rfl
  rw [Port.offer, if_pos h, Port.enqueue, hn, if_pos (show q.notices.length < noticeCapacity from hroom)]

/-! ### The end of a stream (R105, R106) -/

/-- A port told of the end of its stream, if it has one (R105). -/
def Port.toldEnd (q : Port) (x : Option Stream) (why : StreamEnd) : Port :=
  match x with
  | some y => q.offer (streamEndNotice y why)
  | none => q

theorem endStream_eq (p : PortId) (why : StreamEnd) (s : State) :
    endStream p why s = setStream p none (s.setPort p ((s.port p).toldEnd (s.stream p) why)) := by
  cases h : s.stream p with
  | some y => simp only [endStream, h]; rfl
  | none =>
    have hnone : setStream p none s = s := by rw [← h, setStream_stream_self]
    simp only [endStream, h, Port.toldEnd, State.setPort_port, hnone]

/-- After a POINTS frame a stream ends or stands as it was. -/
theorem afterPoints_cases (p : PortId) (s : State) : afterPoints p s = s ∨ (afterPoints p s).stream p = none := by
  have hended (why : StreamEnd) : (endStream p why s).stream p = none := by rw [endStream_stream, if_pos rfl]
  unfold afterPoints runOverTest
  cases s.stream p with
  | none => exact .inl rfl
  | some x =>
    dsimp only
    split
    · exact .inr (hended _)
    · split
      · exact .inr (hended _)
      · exact .inl rfl

section

variable {p : PortId} {s : State} {x : Stream}

theorem afterPoints_of_done (hx : s.stream p = some x) (h : x.remaining = some 0) :
    afterPoints p s = endStream p .countDone s := by
  simp only [afterPoints, hx, if_pos h]

theorem afterPoints_of_more (hx : s.stream p = some x) (h : x.remaining ≠ some 0) :
    afterPoints p s = runOverTest p s := by
  simp only [afterPoints, hx, if_neg h]

/-! ### A cursor above C (R107) -/

theorem above_iff {st : Store} {k : Nat} : st.above k = true ↔ ∀ c, st.c = some c → c < k := by
  unfold Store.above
  cases st.c <;> simp

theorem runOverTest_of_none (h : s.stream p = none) : runOverTest p s = s := by rw [runOverTest, h]

theorem runOverTest_of_run (h : s.run.state ≠ .idle) : runOverTest p s = s := by
  unfold runOverTest
  split
  · exact if_neg fun e => h e.1
  · rfl

theorem runOverTest_of_reached {c : Nat} (hx : s.stream p = some x) (hc : s.store.c = some c) (h : x.cursor ≤ c) :
    runOverTest p s = s := by
  simp only [runOverTest, hx, above_iff]
  exact if_neg fun e => Nat.not_lt.mpr h (e.2 c hc)

theorem runOverTest_of_above (hx : s.stream p = some x) (hidle : s.run.state = .idle)
    (h : ∀ c, s.store.c = some c → c < x.cursor) : runOverTest p s = endStream p .runOver s := by
  simp only [runOverTest, hx, above_iff]
  exact if_pos ⟨hidle, h⟩

theorem runOverTest_runOverTest (p : PortId) (s : State) : runOverTest p (runOverTest p s) = runOverTest p s := by
  have hcases : runOverTest p s = s ∨ (runOverTest p s).stream p = none := by
    cases hx : s.stream p with
    | none => exact .inl (runOverTest_of_none hx)
    | some x =>
      simp only [runOverTest, hx]
      split
      · exact .inr (by rw [endStream_stream, if_pos rfl])
      · exact .inl rfl
  rcases hcases with h | h
  · rw [h, h]
  · exact runOverTest_of_none h

/-! ### When a POINTS frame is due (R102, R103) -/

/-- How many points a frame carries that R103 lets the part build: those up to C, those that fit, and no more than the
stream has left (R102). -/
theorem pointsDue_of_due {c w : Nat} (hc : s.store.c = some c) (hw : s.store.w = some w) (hr : x.remaining ≠ some 0)
    (hcursor : x.cursor ≤ c) (hold : w - 4095 ≤ x.cursor) (hroom : (s.port p).notices.length + 5 ≤ 16) :
    pointsDue p x s =
      let room := min (c - x.cursor + 1) (((s.port p).options.maxReplyWords - 1) / 10)
      x.remaining.elim room (min room) := by
  simp only [pointsDue, hc, Store.oldest_of_some hw]
  rw [if_pos ⟨hr, hcursor, hold, hroom⟩]
  cases x.remaining <;> rfl

theorem pointsDue_of_not_due (h : ∀ c w, s.store.c = some c → s.store.w = some w →
      c < x.cursor ∨ x.cursor < w - 4095 ∨ 16 < (s.port p).notices.length + 5) : pointsDue p x s = 0 := by
  unfold pointsDue
  cases hc : s.store.c with
  | none => rfl
  | some c =>
    cases hw : s.store.w with
    | none => rw [Store.oldest, hw]; rfl
    | some w =>
      rw [Store.oldest_of_some hw]
      refine if_neg fun ⟨_, hcursor, hold, hroom⟩ => ?_
      simp only [pointsFreeSlots, noticeCapacity] at hroom
      have := h c w hc hw
      omega

/-- A port of at least 12 words to a frame carries at least one point in a frame that is due. -/
theorem pointsDue_pos {c w : Nat} (hc : s.store.c = some c) (hw : s.store.w = some w) (hr : x.remaining ≠ some 0)
    (hcursor : x.cursor ≤ c) (hold : w - 4095 ≤ x.cursor) (hroom : (s.port p).notices.length + 5 ≤ 16)
    (hwords : 12 ≤ (s.port p).options.maxReplyWords) : 1 ≤ pointsDue p x s := by
  rw [pointsDue_of_due hc hw hr hcursor hold hroom]
  cases hx : x.remaining with
  | none => dsimp only [Option.elim]; omega
  | some r =>
    have : r ≠ 0 := fun e => hr (by rw [hx, e])
    dsimp only [Option.elim]
    omega

/-! ### Building (R102, R103) -/

/-- The part after a POINTS frame of `n` points of a stream has been queued, before the stream's end is tested. -/
def State.withPoints (s : State) (p : PortId) (x : Stream) (n : Nat) : State :=
  setStream p (some (x.advance n)) (s.setPort p ((s.port p).offer (pointsNotice x n s)))

@[simp] theorem State.withPoints_stream (n : Nat) : (s.withPoints p x n).stream p = some (x.advance n) :=
  setStream_stream _ _ _

@[simp] theorem State.withPoints_port (n : Nat) :
    (s.withPoints p x n).port p = (s.port p).offer (pointsNotice x n s) :=
  State.port_setPort _ _ _

theorem buildPoints_of_none (h : s.stream p = none) (k : Nat) : buildPoints k p s = s := by
  cases k <;> simp only [buildPoints, h]

theorem buildPoints_of_not_due (hx : s.stream p = some x) (h : pointsDue p x s = 0) (k : Nat) :
    buildPoints k p s = s := by
  cases k <;> simp only [buildPoints, hx, h, if_true]

theorem buildPoints_of_due (hx : s.stream p = some x) (h : pointsDue p x s ≠ 0) (k : Nat) :
    buildPoints (k + 1) p s = buildPoints k p (afterPoints p (s.withPoints p x (pointsDue p x s))) := by
  simp only [buildPoints, hx, if_neg h]
  rfl

/-- A frame of an ACTIVE port takes a notice slot, and none is built with fewer than 5 free: as many rounds as slots are
left before that are enough (R103). -/
theorem buildPoints_fuel {k : Nat} (hactive : (s.port p).state = .active)
    (hk : 12 ≤ (s.port p).notices.length + k) : buildPoints (k + 1) p s = buildPoints k p s := by
  induction k generalizing s with
  | zero =>
    cases hx : s.stream p with
    | none => rw [buildPoints_of_none hx, buildPoints_of_none hx]
    | some x =>
      have hdue : pointsDue p x s = 0 := pointsDue_of_not_due fun _ _ _ _ => .inr (.inr (by omega))
      rw [buildPoints_of_not_due hx hdue, buildPoints_of_not_due hx hdue]
  | succ k ih =>
    cases hx : s.stream p with
    | none => rw [buildPoints_of_none hx, buildPoints_of_none hx]
    | some x =>
      by_cases hdue : pointsDue p x s = 0
      · rw [buildPoints_of_not_due hx hdue, buildPoints_of_not_due hx hdue]
      · rw [buildPoints_of_due hx hdue, buildPoints_of_due hx hdue]
        rcases afterPoints_cases p (s.withPoints p x (pointsDue p x s)) with h | h
        · have hroom : (s.port p).notices.length < 16 := by
            by_contra hfull
            exact hdue (pointsDue_of_not_due fun _ _ _ _ => .inr (.inr (by omega)))
          rw [h]
          refine ih ?_ ?_
          · rw [State.withPoints_port, (Port.offer_keeps _ _).state, hactive]
          · rw [State.withPoints_port, Port.offer_notices hactive hroom, List.length_append, List.length_singleton]
            omega
        · rw [buildPoints_of_none h, buildPoints_of_none h]

theorem streamBuild_of_none (h : s.stream p = none) : streamBuild p s = s := buildPoints_of_none h _

theorem streamBuild_of_not_due (hx : s.stream p = some x) (h : pointsDue p x s = 0) : streamBuild p s = s :=
  buildPoints_of_not_due hx h _

/-- A frame that is due is queued, the stream's end is tested, and the conditions are tested again. -/
theorem streamBuild_of_due (hx : s.stream p = some x) (hactive : (s.port p).state = .active)
    (h : pointsDue p x s ≠ 0) :
    streamBuild p s = streamBuild p (afterPoints p (s.withPoints p x (pointsDue p x s))) := by
  have hroom : (s.port p).notices.length < 16 := by
    by_contra hfull
    exact h (pointsDue_of_not_due fun _ _ _ _ => .inr (.inr (by omega)))
  refine (buildPoints_of_due hx h 15).trans ?_
  rcases afterPoints_cases p (s.withPoints p x (pointsDue p x s)) with hstay | hended
  · rw [hstay]
    refine (buildPoints_fuel ?_ ?_).symm
    · rw [State.withPoints_port, (Port.offer_keeps _ _).state, hactive]
    · omega
  · rw [buildPoints_of_none hended, streamBuild_of_none hended]

/-- Building leaves no stream that the RUN_OVER test would end, if it found none (R107). -/
theorem runOverTest_buildPoints {k : Nat} (h : runOverTest p s = s) :
    runOverTest p (buildPoints k p s) = buildPoints k p s := by
  induction k generalizing s with
  | zero => exact h
  | succ k ih =>
    cases hx : s.stream p with
    | none => rw [buildPoints_of_none hx, h]
    | some x =>
      by_cases hdue : pointsDue p x s = 0
      · rw [buildPoints_of_not_due hx hdue, h]
      · rw [buildPoints_of_due hx hdue]
        refine ih ?_
        by_cases hdone : (x.advance (pointsDue p x s)).remaining = some 0
        · rw [afterPoints_of_done (State.withPoints_stream _) hdone]
          exact runOverTest_of_none (by rw [endStream_stream, if_pos rfl])
        · rw [afterPoints_of_more (State.withPoints_stream _) hdone]
          exact runOverTest_runOverTest _ _

/-! ### Points lost to a stream (R104) -/

/-- The stream after `n` points have been lost to it (R104). -/
def Stream.skip (x : Stream) (n : Nat) : Stream :=
  { x with cursor := x.cursor + n, remaining := x.remaining.map (· - n), lost := min 4294967295 (x.lost + n) }

/-- The GAP notice of `n` points lost at a stream's cursor (R104). -/
def gapNotice (x : Stream) (n : Nat) : Notice :=
  { cls := .gap, tag := x.tag,
    payload := [wordOfNat x.cursor, wordOfNat (x.cursor + n - 1), wordOfNat n, wordOrAbsent (x.skip n).remaining] }

theorem reportGap_eq (n : Nat) :
    reportGap p x n s = setStream p (some (x.skip n)) (s.setPort p ((s.port p).offer (gapNotice x n))) := by
  simp only [reportGap, addSat32_eq]
  rfl

theorem gapTest_of_retained {w : Nat} (hx : s.stream p = some x) (hw : s.store.w = some w)
    (h : w - 4095 ≤ x.cursor) : gapTest p s = s := by
  simp only [gapTest, hx, Store.oldest_of_some hw]
  exact if_neg (Nat.not_lt.mpr h)

/-- A stream that has no more left than the gap takes loses what it has left, and ends (R104, R106). -/
theorem gapTest_of_done {w n : Nat} (hx : s.stream p = some x) (hw : s.store.w = some w) (h : x.cursor < w - 4095)
    (hr : x.remaining = some n) (hn : n ≤ w - 4095 - x.cursor) :
    gapTest p s = endStream p .countDone (reportGap p x n s) := by
  simp only [gapTest, hx, Store.oldest_of_some hw, hr]
  rw [if_pos h, if_pos hn]

/-- A stream with more left than the gap takes moves to the oldest retained index and builds (R103, R104). -/
theorem gapTest_of_more {w : Nat} (hx : s.stream p = some x) (hw : s.store.w = some w) (h : x.cursor < w - 4095)
    (hr : ∀ n, x.remaining = some n → w - 4095 - x.cursor < n) :
    gapTest p s = streamBuild p (reportGap p x (w - 4095 - x.cursor) s) := by
  simp only [gapTest, hx, Store.oldest_of_some hw]
  rw [if_pos h]
  cases hn : x.remaining with
  | none => rfl
  | some n => exact if_neg (Nat.not_le.mpr (hr n hn))

/-- A gap below C leaves no stream that the RUN_OVER test would end (R104, R107). -/
theorem runOverTest_gapTest {c w : Nat} (hx : s.stream p = some x) (hw : s.store.w = some w) (hc : s.store.c = some c)
    (hold : w - 4095 ≤ c) (hcursor : x.cursor ≤ c) : runOverTest p (gapTest p s) = gapTest p s := by
  rcases Nat.lt_or_ge x.cursor (w - 4095) with hlost | hkept
  · by_cases hr : ∀ n, x.remaining = some n → w - 4095 - x.cursor < n
    · rw [gapTest_of_more hx hw hlost hr, reportGap_eq]
      refine runOverTest_buildPoints (runOverTest_of_reached (setStream_stream _ _ _) hc ?_)
      show x.cursor + (w - 4095 - x.cursor) ≤ c
      omega
    · push Not at hr
      obtain ⟨n, hn, hle⟩ := hr
      rw [gapTest_of_done hx hw hlost hn hle]
      exact runOverTest_of_none (by rw [endStream_stream, if_pos rfl])
  · rw [gapTest_of_retained hx hw hkept]
    exact runOverTest_of_reached hx hc hcursor

end

end Sys2Proof.Machine
end

section
/-!
PROOFS. SET_LINK (R103, R214): the checks of its fields in order, the options that it carries, and its reply.
-/

namespace Sys2Proof.Machine

/-! ### The fields (R214) -/

section

variable {w1 w2 w3 w4 : Word}

/-- The options that four words carry. -/
def LinkOptions.ofWords (w1 w2 w3 w4 : Word) : LinkOptions :=
  { maxReplyWords := w1.toNat, noticeMask := w2.setWidth 3, levelMask := w3.setWidth 3,
    attentionMask := w4.setWidth 12 }

theorem parseOptions_words : parseOptions [w1, w2, w3, w4] =
    if ¬(12 ≤ w1.toNat ∧ w1.toNat ≤ 255) then .error 1
    else if 8 ≤ w2.toNat then .error 2
    else if 8 ≤ w3.toNat then .error 3
    else if 4096 ≤ w4.toNat then .error 4
    else .ok (.ofWords w1 w2 w3 w4) := rfl

/-- A word cut to a mask's width and widened again is the word, if its value fits. -/
theorem setWidth_setWidth_of_lt {n : Nat} {w : Word} (h : w.toNat < 2 ^ n) : (w.setWidth n).setWidth 32 = w := by
  apply BitVec.eq_of_toNat_eq
  rw [BitVec.toNat_setWidth, BitVec.toNat_setWidth, Nat.mod_eq_of_lt h, Nat.mod_eq_of_lt w.isLt]

/-- The reply carries the words of the request: no field loses a bit in its range (R214). -/
theorem LinkOptions.words_ofWords (h2 : w2.toNat < 8) (h3 : w3.toNat < 8) (h4 : w4.toNat < 4096) :
    (LinkOptions.ofWords w1 w2 w3 w4).words = [w1, w2, w3, w4] := by
  have h1 : wordOfNat w1.toNat = w1 := by simp [wordOfNat]
  simp only [LinkOptions.words, LinkOptions.ofWords, h1, setWidth_setWidth_of_lt (n := 3) h2,
    setWidth_setWidth_of_lt (n := 3) h3, setWidth_setWidth_of_lt (n := 12) h4]

end

/-! ### The request -/

section

variable {p : PortId} {r : Request} {rest : List Request} {s : State} {w1 w2 w3 w4 : Word}

theorem Serves.setLink_runs (h : Serves .setLink p r rest s) (hp : r.payload = [w1, w2, w3, w4]) :
    exec (.setLink p) s = .next (setLinkBody p r (s.setPort p ((s.port p).taken rest))) :=
  congrArg Host.Outcome.next (h.body_runs (ok := exactly 4) (by rw [hp]; rfl) (setLinkBody p))

theorem Serves.setLink_refused (h : Serves .setLink p r rest s) {n : Nat} (hn : parseOptions r.payload = .error n) :
    setLinkBody p r (s.setPort p ((s.port p).taken rest)) = s.answered p rest (refusal r .range n) := by
  simp only [setLinkBody, hn]
  exact h.refuse_taken .range n

/-- The part after a SET_LINK has replaced a port's options and is answered. -/
def State.withOptions (s : State) (p : PortId) (rest : List Request) (a : Answer) (o : LinkOptions) : State :=
  s.setPort p { s.port p with inbox := rest, replies := (s.port p).replies ++ [.frame a], options := o }

/-- The options are replaced before the answer is queued, and a change of max_reply_words tests the port's stream
(R103, R214). -/
theorem Serves.setLink_accepted (h : Serves .setLink p r rest s) {o : LinkOptions}
    (ho : parseOptions r.payload = .ok o) :
    setLinkBody p r (s.setPort p ((s.port p).taken rest)) =
      if o.maxReplyWords ≠ (s.port p).options.maxReplyWords then
        streamBuild p (s.withOptions p rest (answerTo r o.words) o)
      else s.withOptions p rest (answerTo r o.words) o := by
  have hreply : reply p r.tag o.words ((s.setPort p ((s.port p).taken rest)).setPort p
      { (s.port p).taken rest with options := o }) = s.withOptions p rest (answerTo r o.words) o := by
    simp [reply, answer, State.withOptions, Port.taken, fillReserved_append _ _ h.unreserved, answerTo]
  simp only [setLinkBody, ho, State.port_setPort, hreply, maxWords, decide_eq_true_eq]
  rfl

end

/-! ### The statement -/

/-- Settles O37: each outcome of `parseOptions_words` is a refusal or the replaced options, and a port without a stream
has nothing to build. -/
theorem setLinkReplacesTheOptions : Obligations.SetLinkReplacesTheOptions := by
  intro p r rest w1 w2 w3 w4 s h hp ok1
  have hparse : parseOptions r.payload = _ := (congrArg parseOptions hp).trans parseOptions_words
  rw [h.setLink_runs hp]
  refine ⟨fun h1 => ?_, fun h1 h2 => ?_, fun h1 h2 h3 => ?_, fun h1 h2 h3 h4 => ?_, fun h1 h2 h3 h4 => ?_⟩
  · rw [if_pos h1] at hparse
    rw [h.setLink_refused hparse]
  · rw [if_neg (not_not_intro h1), if_pos h2] at hparse
    rw [h.setLink_refused hparse]
  · rw [if_neg (not_not_intro h1), if_neg (Nat.not_le.mpr h2), if_pos h3] at hparse
    rw [h.setLink_refused hparse]
  · rw [if_neg (not_not_intro h1), if_neg (Nat.not_le.mpr h2), if_neg (Nat.not_le.mpr h3), if_pos h4] at hparse
    rw [h.setLink_refused hparse]
  · rw [if_neg (not_not_intro h1), if_neg (Nat.not_le.mpr h2), if_neg (Nat.not_le.mpr h3),
      if_neg (Nat.not_le.mpr h4)] at hparse
    rw [h.setLink_accepted hparse, LinkOptions.words_ofWords h2 h3 h4]
    intro u
    refine ⟨fun hcase => congrArg Host.Outcome.next ?_, fun hchange => congrArg Host.Outcome.next (if_pos hchange)⟩
    by_cases hchange : w1.toNat ≠ (s.port p).options.maxReplyWords
    · exact (if_pos hchange).trans (streamBuild_of_none (hcase.resolve_right hchange))
    · exact if_neg hchange

end Sys2Proof.Machine
end

section
/-!
PROOFS. READ_POINTS (R97, R98) and the ten words of a point record (05 section 5.2): each field is read back from the
word that packs it.
-/

namespace Sys2Proof.Machine

/-! ### Fields of a word -/

/-- A field of a packed number, as a quotient and a remainder. -/
theorem extractLsb'_ofNat {k start len m v : Nat} (hfit : start + len ≤ k) (h : m / 2 ^ start % 2 ^ len = v % 2 ^ len) :
    (BitVec.ofNat k m).extractLsb' start len = BitVec.ofNat len v := by
  have hk : 2 ^ k = 2 ^ start * 2 ^ (k - start) := by rw [← Nat.pow_add, Nat.add_sub_cancel' (by omega)]
  have hlen : 2 ^ len ∣ 2 ^ (k - start) := Nat.pow_dvd_pow 2 (by omega)
  apply BitVec.eq_of_toNat_eq
  rw [BitVec.extractLsb'_toNat, BitVec.toNat_ofNat, BitVec.toNat_ofNat, Nat.shiftRight_eq_div_pow, hk,
    Nat.mod_mul_right_div_self, Nat.mod_mod_of_dvd _ hlen, h]

theorem wordOfHalves_low (high low : BitVec 16) : (wordOfHalves high low).extractLsb' 0 16 = low :=
  BitVec.extractLsb'_append_eq_right

theorem wordOfHalves_high (high low : BitVec 16) : (wordOfHalves high low).extractLsb' 16 16 = high :=
  BitVec.extractLsb'_append_eq_left

theorem wordOfHalves_extract_high {start len : Nat} (high low : BitVec 16) (h : 16 ≤ start) :
    (wordOfHalves high low).extractLsb' start len = high.extractLsb' (start - 16) len :=
  BitVec.extractLsb'_append_eq_of_le h

theorem wordOfHalves_extract_low {start len : Nat} (high low : BitVec 16) (h : start + len ≤ 16) :
    (wordOfHalves high low).extractLsb' start len = low.extractLsb' start len :=
  BitVec.extractLsb'_append_eq_of_add_le h

theorem wordOfHalves_bit_high {i m : Nat} (low : BitVec 16) (h : i < 16) :
    (wordOfHalves (BitVec.ofNat 16 m) low).getLsbD (16 + i) = m.testBit i := by
  refine BitVec.getLsbD_append.trans ?_
  rw [if_neg (by omega), Nat.add_sub_cancel_left, BitVec.getLsbD_ofNat, decide_eq_true h, Bool.true_and]

/-! ### The point record (05 section 5.2) -/

section

variable (x : PointRec)

/-- The flags, lowest bit first. -/
theorem PointRec.flags_eq_bits : x.flags = Nat.bit x.seam (Nat.bit x.lowSpeed (Nat.bit x.slide (Nat.bit x.slew
    (Nat.bit x.rebase (Nat.bit x.tail (Nat.bit x.suppressed (Nat.bit x.exceeding 0))))))) := by
  simp only [PointRec.flags, Nat.bit_val]
  omega

theorem PointRec.flags_lt : x.flags < 256 := by
  have hbit (b : Bool) : b.toNat ≤ 1 := Bool.toNat_le b
  have := hbit x.seam; have := hbit x.lowSpeed; have := hbit x.slide; have := hbit x.slew
  have := hbit x.rebase; have := hbit x.tail; have := hbit x.suppressed; have := hbit x.exceeding
  unfold PointRec.flags
  omega

theorem PointRec.flags_bits : x.flags.testBit 0 = x.seam ∧ x.flags.testBit 1 = x.lowSpeed ∧
    x.flags.testBit 2 = x.slide ∧ x.flags.testBit 3 = x.slew ∧ x.flags.testBit 4 = x.rebase ∧
    x.flags.testBit 5 = x.tail ∧ x.flags.testBit 6 = x.suppressed ∧ x.flags.testBit 7 = x.exceeding := by
  rw [x.flags_eq_bits]
  refine ⟨?_, ?_, ?_, ?_, ?_, ?_, ?_, ?_⟩ <;> simp only [Nat.testBit_bit_succ, Nat.testBit_bit_zero]

/-- Word 3: the high part of the crossing time, and the eight flags above it. -/
theorem PointRec.words_flags :
    let w : Word := x.words.getD 3 0#32
    w.extractLsb' 0 16 = BitVec.ofNat 16 (x.crossing / 4294967296) ∧ w.getLsbD 16 = x.seam ∧
      w.getLsbD 17 = x.lowSpeed ∧ w.getLsbD 18 = x.slide ∧ w.getLsbD 19 = x.slew ∧ w.getLsbD 20 = x.rebase ∧
      w.getLsbD 21 = x.tail ∧ w.getLsbD 22 = x.suppressed ∧ w.getLsbD 23 = x.exceeding ∧
      w.extractLsb' 24 8 = 0#8 := by
  intro w
  have hw : w = wordOfHalves (BitVec.ofNat 16 x.flags) (BitVec.ofNat 16 (x.crossing / 4294967296)) := rfl
  have hbit (i : Nat) (h : i < 16) : w.getLsbD (16 + i) = x.flags.testBit i := hw ▸ wordOfHalves_bit_high _ h
  have hlt := x.flags_lt
  obtain ⟨h0, h1, h2, h3, h4, h5, h6, h7⟩ := x.flags_bits
  refine ⟨hw ▸ wordOfHalves_low _ _, (hbit 0 (by decide)).trans h0, (hbit 1 (by decide)).trans h1,
    (hbit 2 (by decide)).trans h2, (hbit 3 (by decide)).trans h3, (hbit 4 (by decide)).trans h4,
    (hbit 5 (by decide)).trans h5, (hbit 6 (by decide)).trans h6, (hbit 7 (by decide)).trans h7, ?_⟩
  rw [hw, wordOfHalves_extract_high _ _ (by decide)]
  exact extractLsb'_ofNat (by decide) (by omega)

theorem LocState.code_lt (l : LocState) : l.code < 3 := by cases l <;> decide

theorem OdoState.code_lt (o : OdoState) : o.code < 3 := by cases o <;> decide

theorem Status.code_lt (t : Status) : t.code < 4 := by cases t <;> decide

/-- Word 4: speed, class, location state, odometry state and highest level, from the lowest bit up. -/
theorem PointRec.words_class :
    let w : Word := x.words.getD 4 0#32
    w.extractLsb' 0 20 = BitVec.ofNat 20 x.speed ∧ w.extractLsb' 20 3 = BitVec.ofNat 3 x.trackClass.val ∧
      w.extractLsb' 23 2 = BitVec.ofNat 2 x.locState.code ∧ w.extractLsb' 25 2 = BitVec.ofNat 2 x.odoState.code ∧
      w.extractLsb' 27 2 = BitVec.ofNat 2 x.highest ∧ w.extractLsb' 29 3 = 0#3 := by
  intro w
  have hw : w = wordOfNat ((x.highest % 4) * 134217728 + x.odoState.code * 33554432 + x.locState.code * 8388608 +
      x.trackClass.val * 1048576 + x.speed % 1048576) := rfl
  have hclass := x.trackClass.isLt
  have hloc := x.locState.code_lt
  have hodo := x.odoState.code_lt
  rw [hw]
  refine ⟨extractLsb'_ofNat ?_ ?_, extractLsb'_ofNat ?_ ?_, extractLsb'_ofNat ?_ ?_, extractLsb'_ofNat ?_ ?_,
    extractLsb'_ofNat ?_ ?_, extractLsb'_ofNat ?_ ?_⟩ <;> omega

/-- The status of parameter `n` is digit `n` of the statuses in base 4. -/
theorem PointRec.statusBits_digit {n : Nat} {st : Status}
    (h : (n, st) ∈ [(0, x.statuses.gauge), (1, x.statuses.cant), (2, x.statuses.levelL), (3, x.statuses.levelR),
      (4, x.statuses.alignL), (5, x.statuses.alignR), (6, x.statuses.twist), (7, x.statuses.curv)]) :
    2 * n + 2 ≤ 16 ∧ x.statusBits / 2 ^ (2 * n) % 2 ^ 2 = st.code % 2 ^ 2 := by
  have hsum : x.statusBits = x.statuses.gauge.code + x.statuses.cant.code * 4 + x.statuses.levelL.code * 16 +
      x.statuses.levelR.code * 64 + x.statuses.alignL.code * 256 + x.statuses.alignR.code * 1024 +
      x.statuses.twist.code * 4096 + x.statuses.curv.code * 16384 := by
    simp [PointRec.statusBits, Param.all, Param.code, PerParam.get]
  have := x.statuses.gauge.code_lt; have := x.statuses.cant.code_lt
  have := x.statuses.levelL.code_lt; have := x.statuses.levelR.code_lt
  have := x.statuses.alignL.code_lt; have := x.statuses.alignR.code_lt
  have := x.statuses.twist.code_lt; have := x.statuses.curv.code_lt
  simp only [List.mem_cons, List.not_mem_nil, or_false, Prod.mk.injEq] at h
  rcases h with ⟨rfl, rfl⟩ | ⟨rfl, rfl⟩ | ⟨rfl, rfl⟩ | ⟨rfl, rfl⟩ | ⟨rfl, rfl⟩ | ⟨rfl, rfl⟩ | ⟨rfl, rfl⟩ |
    ⟨rfl, rfl⟩ <;> rw [hsum] <;> omega

/-- Words 5 to 8: two signed values each, the parameter of lower number in the low half. -/
theorem PointRec.words_values :
    let low (i : Nat) (v : Int) : Prop := (x.words.getD i 0#32).extractLsb' 0 16 = BitVec.ofInt 16 v
    let high (i : Nat) (v : Int) : Prop := (x.words.getD i 0#32).extractLsb' 16 16 = BitVec.ofInt 16 v
    low 5 x.values.gauge ∧ high 5 x.values.cant ∧ low 6 x.values.levelL ∧ high 6 x.values.levelR ∧
      low 7 x.values.alignL ∧ high 7 x.values.alignR ∧ low 8 x.values.twist ∧ high 8 x.values.curv :=
  ⟨wordOfHalves_low _ _, wordOfHalves_high _ _, wordOfHalves_low _ _, wordOfHalves_high _ _, wordOfHalves_low _ _,
    wordOfHalves_high _ _, wordOfHalves_low _ _, wordOfHalves_high _ _⟩

/-- Word 9: the section id, and two bits of status for each parameter. -/
theorem PointRec.words_status :
    let w : Word := x.words.getD 9 0#32
    w.extractLsb' 16 16 = BitVec.ofNat 16 x.sectionId ∧ ∀ (n : Nat) (st : Status),
      (n, st) ∈ [(0, x.statuses.gauge), (1, x.statuses.cant), (2, x.statuses.levelL), (3, x.statuses.levelR),
        (4, x.statuses.alignL), (5, x.statuses.alignR), (6, x.statuses.twist), (7, x.statuses.curv)] →
      w.extractLsb' (2 * n) 2 = BitVec.ofNat 2 st.code := by
  intro w
  have hw : w = wordOfHalves (BitVec.ofNat 16 x.sectionId) (BitVec.ofNat 16 x.statusBits) := rfl
  refine ⟨hw ▸ wordOfHalves_high _ _, fun n st h => ?_⟩
  obtain ⟨hfit, hdigit⟩ := x.statusBits_digit h
  rw [hw, wordOfHalves_extract_low _ _ hfit]
  exact extractLsb'_ofNat hfit hdigit

end

/-! ### The request (R97, R98) -/

section

variable {p : PortId} {r : Request} {rest : List Request} {s : State} {a b : Word}

theorem Serves.readPoints_runs (h : Serves .readPoints p r rest s) (hp : r.payload = [a, b]) :
    exec (.readPoints p) s = .next (readPointsBody p r (s.setPort p ((s.port p).taken rest))) :=
  congrArg Host.Outcome.next (h.body_runs (ok := exactly 2) (by rw [hp]; rfl) (readPointsBody p))

/-- The tests of READ_POINTS in their order (R97). -/
theorem Serves.readPoints_tests (h : Serves .readPoints p r rest s) (hp : r.payload = [a, b]) :
    readPointsBody p r (s.setPort p ((s.port p).taken rest)) =
      if b.toNat < a.toNat then s.answered p rest (refusal r .range 2)
      else match s.store.c with
        | none => s.answered p rest (refusal r .notReady 0)
        | some c =>
          if a.toNat < s.store.oldest.getD 0 then s.answered p rest (refusal r .expired 0)
          else if c < a.toNat then s.answered p rest (refusal r .notReady 0)
          else
            let n := pointsReturned a.toNat b.toNat c (s.port p).options.maxReplyWords
            s.answered p rest (answerTo r ((if a.toNat + n ≤ b.toNat then wordOfNat (a.toNat + n) else Word.absent) ::
              s.store.records a.toNat n)) := by
  simp only [readPointsBody, hp, h.refuse_taken, h.reply_taken, maxWords, State.port_setPort]
  rfl

end

/-! ### The statement -/

/-- Settles O40: the request by the order of its tests, the record word by word. -/
theorem readPointsReturnsTheWindow : Obligations.ReadPointsReturnsTheWindow := by
  refine ⟨fun p r rest a b s h hp => ?_, fun x => ?_⟩
  · intro first last
    rw [h.readPoints_runs hp, h.readPoints_tests hp]
    refine ⟨fun hrange => by rw [if_pos hrange], fun hrange hc => by rw [if_neg (Nat.not_lt.mpr hrange), hc], ?_⟩
    intro c w hc hw hrange
    have holdest : s.store.oldest.getD 0 = w - 4095 := by rw [Store.oldest_of_some hw, Option.getD_some]
    rw [if_neg (Nat.not_lt.mpr hrange), hc]
    dsimp only
    rw [holdest]
    refine ⟨fun hexpired => by rw [if_pos hexpired], fun hkept hahead => ?_, fun hkept hready => ?_⟩
    · rw [if_neg (Nat.not_lt.mpr hkept), if_pos hahead]
    · rw [if_neg (Nat.not_lt.mpr hkept), if_neg (Nat.not_lt.mpr hready)]
      rfl
  · obtain ⟨hcrossing, hseam, hlow, hslide, hslew, hrebase, htail, hsuppressed, hexceeding, hflags⟩ := x.words_flags
    obtain ⟨hspeed, hclass, hloc, hodo, hhighest, hzero⟩ := x.words_class
    obtain ⟨hgauge, hcant, hlevelL, hlevelR, halignL, halignR, htwist, hcurv⟩ := x.words_values
    obtain ⟨hsection, hstatus⟩ := x.words_status
    refine ⟨rfl, rfl, rfl, rfl, hcrossing, hseam, hlow, hslide, hslew, hrebase, htail, hsuppressed, hexceeding, hflags,
      hspeed, hclass, hloc.trans ?_, hodo.trans ?_, hhighest, hzero, hgauge, hcant, hlevelL, hlevelR, halignL, halignR,
      htwist, hcurv, hsection, fun n st h => (hstatus n st h).trans ?_⟩
    · cases x.locState <;> rfl
    · cases x.odoState <;> rfl
    · cases st <;> rfl

end Sys2Proof.Machine
end

section
/-!
PROOFS. STREAM_POINTS, STOP_STREAM and the stream of a port (R101 to R107, R110, R206): what a stream begins with, and
what building, gaps and the transmitter make of it.
-/

namespace Sys2Proof.Machine

/-! ### A stream ended by a request (R101, R110) -/

/-- An offer does not look at the inbox or the replies of a port. -/
theorem Port.offer_answered (q : Port) (n : Notice) (i : List Request) (l : List ReplySlot) :
    ({ q with inbox := i, replies := l } : Port).offer n = { q.offer n with inbox := i, replies := l } :=
  (Port.offer_with q n i q.inService l).trans (by rw [← Port.offer_inService q n])

/-- A port told of the end of its stream, with the oldest request gone and its answer queued. -/
def Port.endAnswered (q : Port) (x : Option Stream) (why : StreamEnd) (rest : List Request) (a : Answer) : Port :=
  { q.toldEnd x why with inbox := rest, replies := q.replies ++ [.frame a] }

theorem Port.toldEnd_taken (q : Port) (x : Option Stream) (why : StreamEnd) (rest : List Request) :
    (q.taken rest).toldEnd x why = { q.toldEnd x why with inbox := rest, replies := q.replies ++ [.reserved] } := by
  cases x with
  | none => rfl
  | some y => exact Port.offer_answered q _ _ _

/-- The end of a stream that is the only one of its port, with that port as given. -/
theorem endStream_setStream (p : PortId) (why : StreamEnd) (x : Stream) (q : Port) (s : State) :
    endStream p why (setStream p (some x) (s.setPort p q)) =
      setStream p none (s.setPort p (q.offer (streamEndNotice x why))) := by
  rw [endStream_eq, setStream_stream, setStream_port, State.port_setPort, setStream_setPort, setStream_setStream,
    State.setPort_setPort]
  rfl

section

variable {k : RequestKind} {p : PortId} {r : Request} {rest : List Request} {s : State}

/-- A request that ends the port's stream is answered behind the port's earlier answers. -/
theorem Serves.reply_ended (h : Serves k p r rest s) (why : StreamEnd) (w : List Word) :
    reply p r.tag w (endStream p why (s.setPort p ((s.port p).taken rest))) =
      setStream p none (s.setPort p ((s.port p).endAnswered (s.stream p) why rest (answerTo r w))) := by
  rw [endStream_eq, State.port_setPort, State.setPort_stream, Port.toldEnd_taken, State.setPort_setPort, reply, answer,
    setStream_port, State.port_setPort, setStream_setPort, State.setPort_setPort,
    fillReserved_append _ _ h.unreserved]
  rfl

/-! ### STOP_STREAM (R110) -/

theorem Serves.stopStream_runs (h : Serves .stopStream p r rest s) (hp : r.payload = []) :
    exec (.stopStream p) s = .next (stopStreamBody p r (s.setPort p ((s.port p).taken rest))) :=
  congrArg Host.Outcome.next (h.body_runs (ok := exactly 0) (by rw [hp]; rfl) (stopStreamBody p))

theorem Serves.stopStream_none (h : Serves .stopStream p r rest s) (hx : s.stream p = none) :
    stopStreamBody p r (s.setPort p ((s.port p).taken rest)) = s.answered p rest (answerTo r [0#32]) := by
  simp only [stopStreamBody, State.setPort_stream, hx, Option.isSome_none]
  exact h.reply_taken _

theorem Serves.stopStream_some (h : Serves .stopStream p r rest s) {x : Stream} (hx : s.stream p = some x) :
    stopStreamBody p r (s.setPort p ((s.port p).taken rest)) =
      setStream p none (s.setPort p ((s.port p).endAnswered (some x) .stopped rest (answerTo r [1#32]))) := by
  simp only [stopStreamBody, State.setPort_stream, hx, Option.isSome_some, if_true]
  rw [h.reply_ended, hx]

/-! ### STREAM_POINTS (R101) -/

/-- The new stream's words, read as R101 reads them. -/
theorem newStream_words {r : Request} {a b : Word} (hp : r.payload = [a, b]) (c : Option Nat) :
    newStream r c =
      { cursor := if a = 0xFFFFFFFF#32 then (match c with
          | some c => c + 1
          | none => 0) else a.toNat,
        remaining := if b = 0#32 ∨ b = 0xFFFFFFFF#32 then none else some b.toNat,
        tag := r.tag, delivered := 0, lost := 0 } := by
  rw [newStream, hp]
  cases c <;> rfl

/-- The part after a stream has begun over an older one and the request is answered, before the stream is tested
(R101, steps 1 to 3). -/
def State.begins (s : State) (p : PortId) (r : Request) (rest : List Request) (x : Stream) : State :=
  setStream p (some x) (s.setPort p ((s.port p).endAnswered (s.stream p) .replaced rest
    (answerTo r [wordOfNat x.cursor, wordOrAbsent x.remaining])))

theorem Serves.streamPoints_runs {a b : Word} (h : Serves .streamPoints p r rest s) (hp : r.payload = [a, b]) :
    exec (.streamPoints p) s = .next (streamPointsBody p r (s.setPort p ((s.port p).taken rest))) :=
  congrArg Host.Outcome.next (h.body_runs (ok := exactly 2) (by rw [hp]; rfl) (streamPointsBody p))

theorem Serves.streamPoints_refused (h : Serves .streamPoints p r rest s) (hw : s.store.w = none)
    (hidle : s.run.state = .idle) :
    streamPointsBody p r (s.setPort p ((s.port p).taken rest)) = s.answered p rest (refusal r .notReady 0) :=
  (if_pos ⟨hw, hidle⟩).trans (h.refuse_taken .notReady 0)

/-- With a point in the store the stream begins, and is tested for a gap, for RUN_OVER and for frames to build. -/
theorem Serves.streamPoints_begins (h : Serves .streamPoints p r rest s) {w : Nat} (hw : s.store.w = some w) :
    streamPointsBody p r (s.setPort p ((s.port p).taken rest)) =
      streamBuild p (runOverTest p (gapTest p (s.begins p r rest (newStream r s.store.c)))) := by
  have hsome : ¬(s.store.w = none ∧ s.run.state = .idle) := fun e => by rw [hw] at e; cases e.1
  refine (if_neg hsome).trans (congrArg (fun t => streamBuild p (runOverTest p (gapTest p t))) ?_)
  have hended := h.reply_ended .replaced
    [wordOfNat (newStream r s.store.c).cursor, wordOrAbsent (newStream r s.store.c).remaining]
  exact (congrArg (setStream p _) hended).trans (setStream_setStream _ _ _ _)

end

/-! ### The tests of a stream that has just begun (R101, R104, R107) -/

theorem gapTest_run (p : PortId) (s : State) : (gapTest p s).run = s.run := by
  have h := gapTest_upstream p s
  simp only [State.upstream, Prod.mk.injEq] at h
  obtain ⟨-, -, -, -, -, hrun, -⟩ := h
  exact hrun

section

variable {p : PortId} {s : State} {x : Stream}

theorem begun_in_run (h : s.run.state ≠ .idle) :
    streamBuild p (runOverTest p (gapTest p s)) = streamBuild p (gapTest p s) := by
  rw [runOverTest_of_run (by rw [gapTest_run]; exact h)]

theorem streamBuild_endStream (p : PortId) (why : StreamEnd) (s : State) :
    streamBuild p (endStream p why s) = endStream p why s :=
  streamBuild_of_none (by rw [endStream_stream, if_pos rfl])

/-- A cursor above C builds nothing (R103). -/
theorem streamBuild_of_above (hx : s.stream p = some x) (h : ∀ c, s.store.c = some c → c < x.cursor) :
    streamBuild p s = s :=
  streamBuild_of_not_due hx (pointsDue_of_not_due fun c _ hc _ => .inl (h c hc))

/-- In a run a stream above C waits (R107). -/
theorem begun_waits {w : Nat} (hx : s.stream p = some x) (hw : s.store.w = some w) (hrun : s.run.state ≠ .idle)
    (hkept : w - 4095 ≤ x.cursor) (h : ∀ c, s.store.c = some c → c < x.cursor) :
    streamBuild p (runOverTest p (gapTest p s)) = s := by
  rw [begun_in_run hrun, gapTest_of_retained hx hw hkept, streamBuild_of_above hx h]

/-- In IDLE a stream above C ends at once (R107). -/
theorem begun_ends {w : Nat} (hx : s.stream p = some x) (hw : s.store.w = some w) (hidle : s.run.state = .idle)
    (hkept : w - 4095 ≤ x.cursor) (h : ∀ c, s.store.c = some c → c < x.cursor) :
    streamBuild p (runOverTest p (gapTest p s)) = endStream p .runOver s := by
  rw [gapTest_of_retained hx hw hkept, runOverTest_of_above hx hidle h, streamBuild_endStream]

/-- In IDLE a stream up to C is not ended before its frames are built (R104, R107). -/
theorem begun_builds {c w : Nat} (hx : s.stream p = some x) (hw : s.store.w = some w) (hc : s.store.c = some c)
    (hold : w - 4095 ≤ c) (hcursor : x.cursor ≤ c) :
    streamBuild p (runOverTest p (gapTest p s)) = streamBuild p (gapTest p s) := by
  rw [runOverTest_gapTest hx hw hc hold hcursor]

/-- What STREAM_POINTS does with a point in the store, by where its cursor stands (R101, R104, R107). -/
theorem Serves.streamPoints_cases {r : Request} {rest : List Request} {a b : Word} {w : Nat}
    (h : Serves .streamPoints p r rest s) (hp : r.payload = [a, b]) (hw : s.store.w = some w) :
    let u := s.begins p r rest (newStream r s.store.c)
    let x := newStream r s.store.c
    (s.run.state ≠ .idle → exec (.streamPoints p) s = .next (streamBuild p (gapTest p u))) ∧
    (s.run.state ≠ .idle → (w - 4095 ≤ x.cursor ∧ ∀ c, s.store.c = some c → c < x.cursor) →
      exec (.streamPoints p) s = .next u) ∧
    (∀ c, s.run.state = .idle → s.store.c = some c → w - 4095 ≤ c → x.cursor ≤ c →
      exec (.streamPoints p) s = .next (streamBuild p (gapTest p u))) ∧
    (s.run.state = .idle → (w - 4095 ≤ x.cursor ∧ ∀ c, s.store.c = some c → c < x.cursor) →
      exec (.streamPoints p) s = .next (endStream p .runOver u)) := by
  intro u x
  have hx : u.stream p = some x := setStream_stream _ _ _
  rw [h.streamPoints_runs hp, h.streamPoints_begins hw]
  exact ⟨fun hrun => congrArg _ (begun_in_run (s := u) hrun),
    fun hrun ⟨hkept, habove⟩ => congrArg _ (begun_waits hx hw hrun hkept habove),
    fun c _ hc hold hcursor => congrArg _ (begun_builds hx hw hc hold hcursor),
    fun hidle ⟨hkept, habove⟩ => congrArg _ (begun_ends hx hw hidle hkept habove)⟩

/-! ### Points lost (R104) -/

/-- A gap takes the points up to the oldest retained index, or as many as the stream has left. -/
theorem gapTest_of_lost {w : Nat} (hx : s.stream p = some x) (hw : s.store.w = some w) (h : x.cursor < w - 4095) :
    let n := x.remaining.elim (w - 4095 - x.cursor) (min · (w - 4095 - x.cursor))
    ((x.skip n).remaining = some 0 → gapTest p s = endStream p .countDone (reportGap p x n s)) ∧
      ((x.skip n).remaining ≠ some 0 → gapTest p s = streamBuild p (reportGap p x n s)) := by
  cases hr : x.remaining with
  | none =>
    refine ⟨fun hdone => ?_, fun _ => gapTest_of_more hx hw h fun n hn => ?_⟩
    · simp only [Stream.skip, hr, Option.map_none] at hdone
      cases hdone
    · rw [hr] at hn
      cases hn
  | some m =>
    simp only [Stream.skip, hr, Option.map_some, Option.elim, Option.some.injEq, ne_eq]
    refine ⟨fun hdone => ?_, fun hmore => ?_⟩
    · rw [Nat.min_eq_left (by omega)]
      exact gapTest_of_done hx hw h hr (by omega)
    · rw [Nat.min_eq_right (by omega)]
      refine gapTest_of_more hx hw h fun n hn => ?_
      obtain rfl : m = n := Option.some.inj (hr.symm.trans hn)
      omega

end

/-! ### The transmitter (R206) -/

theorem takeAnswer_of_reserved {l : List ReplySlot} (h : reservedSlots l = l.length) : takeAnswer l = none := by
  induction l with
  | nil => rfl
  | cons a l ih =>
    cases a with
    | reserved =>
      rw [reservedSlots_reserved, List.length_cons, Nat.add_right_cancel_iff] at h
      rw [takeAnswer, ih h, Option.map_none]
    | frame b =>
      have hle : reservedSlots l ≤ l.length := List.countP_le_length
      rw [reservedSlots_frame, List.length_cons] at h
      omega

theorem transmitStart_notice {p : PortId} {s : State} {n : Notice} {rest : List Notice}
    (hactive : (s.port p).state = .active) (hfree : (s.port p).sending = none) (hnow : 2000 ≤ s.now)
    (hreplies : reservedSlots (s.port p).replies = (s.port p).replies.length) (hn : (s.port p).notices = n :: rest) :
    transmitStart p s = streamBuild p (s.setPort p ((s.port p).beginNotice n rest)) := by
  refine (if_pos ⟨hactive, hfree, hnow⟩).trans ?_
  rw [takeAnswer_of_reserved hreplies, hn]

/-! ### The statement -/

/-- Settles O41: the requests by the tests of the stream that they begin or end, a frame and a gap by what
`streamBuild_of_due` and `gapTest_of_lost` leave to the tests of the end. -/
theorem streamsBeginAndStop : Obligations.StreamsBeginAndStop := by
  refine ⟨fun p r rest s => ⟨?_, ?_, ?_, ?_⟩, fun p x w s hx hw hactive hwords hremaining => ?_⟩
  · intro a b h hp hw hidle
    rw [h.streamPoints_runs hp, h.streamPoints_refused hw hidle]
  · intro a b w h hp hw cursor remaining begun answered replaced u above
    have hnew : newStream r s.store.c = begun := newStream_words hp _
    have hu : s.begins p r rest begun = u := by
      simp only [u, State.begins, Port.endAnswered, Port.toldEnd, replaced]
      cases s.stream p <;> rfl
    obtain ⟨hrun, hwaits, hbuilds, hends⟩ := h.streamPoints_cases hp hw
    rw [hnew, hu] at hrun hwaits hbuilds hends
    refine ⟨hrun, hwaits, hbuilds, fun hidle habove => (hends hidle habove).trans (congrArg _ ?_)⟩
    refine (endStream_setStream _ _ _ _ _).trans (congrArg (fun q => setStream p none (s.setPort p q)) ?_)
    exact Port.offer_answered _ _ _ _
  · intro h hp hx
    rw [h.stopStream_runs hp, h.stopStream_none hx]
  · intro x h hp hx
    rw [h.stopStream_runs hp, h.stopStream_some hx]
    rfl
  · intro q oldest moved ended
    refine ⟨?_, ?_, fun hkept => gapTest_of_retained hx hw hkept, ?_, ?_⟩
    · intro c hc hcursor hold hroom room n y q'
      have hn : pointsDue p x s = n := by
        rw [pointsDue_of_due hc hw hremaining hcursor hold hroom]
        simp only [n]
        cases x.remaining <;> rfl
      have hpos : 1 ≤ n := hn ▸ pointsDue_pos hc hw hremaining hcursor hold hroom hwords
      have hy : x.advance n = y := by
        rw [Stream.advance, addSat32_eq]
      have hbuilt : s.withPoints p x n = setStream p (some y) (s.setPort p q') := by
        rw [State.withPoints, pointsNotice, hy]
        rfl
      have hstep : streamBuild p s = streamBuild p (afterPoints p (setStream p (some y) (s.setPort p q'))) := by
        rw [streamBuild_of_due hx hactive (by omega), hn, hbuilt]
      have habove (hover : c < y.cursor) : ∀ d, s.store.c = some d → d < y.cursor := fun d hd => by
        obtain rfl : c = d := Option.some.inj (hc.symm.trans hd)
        exact hover
      have hstream : (setStream p (some y) (s.setPort p q')).stream p = some y := setStream_stream _ _ _
      refine ⟨hpos, fun hdone => ?_, fun hmore hidle hover => ?_, fun hmore hrun hover => ?_, fun hmore hleft => ?_⟩
      · rw [hstep, afterPoints_of_done hstream hdone, streamBuild_endStream]
        exact endStream_setStream _ _ _ _ _
      · rw [hstep, afterPoints_of_more hstream hmore, runOverTest_of_above hstream hidle (habove hover),
          streamBuild_endStream]
        exact endStream_setStream _ _ _ _ _
      · rw [hstep, afterPoints_of_more hstream hmore,
          runOverTest_of_run (s := setStream p (some y) (s.setPort p q')) hrun]
        exact streamBuild_of_above hstream (habove hover)
      · rw [hstep, afterPoints_of_more hstream hmore, runOverTest_of_reached hstream hc hleft]
    · intro h
      refine streamBuild_of_not_due hx (pointsDue_of_not_due fun c v hc hv => ?_)
      obtain rfl : w = v := Option.some.inj (hw.symm.trans hv)
      exact h c hc
    · intro hlost n y q'
      have hn : x.remaining.elim (oldest - x.cursor) (min · (oldest - x.cursor)) = n := by
        simp only [n]
        cases x.remaining <;> rfl
      obtain ⟨hdone, hmore⟩ := gapTest_of_lost hx hw hlost
      rw [hn, reportGap_eq] at hdone hmore
      exact ⟨fun h => (hdone h).trans (endStream_setStream _ _ _ _ _), hmore⟩
    · intro n rest hfree hnow hreplies hnotices
      exact congrArg _ (transmitStart_notice hactive hfree hnow hreplies hnotices)

end Sys2Proof.Machine
end

section
/-!
PROOFS. The marker table (R117 to R119): what a lookup and a put say of its entries, and MARKER_PUT, MARKER_DROP and
MARKER_CLEAR.
-/

namespace Sys2Proof.Machine

/-! ### The table (R117, R118) -/

theorem markerChainage_isSome {ident : Nat} {l : List (Nat × Int)} :
    (markerChainage ident l).isSome = true ↔ ∃ x ∈ l, x.1 = ident := by
  simp [markerChainage, List.find?_isSome]

section

variable {ident : Nat} {chainage : Int} {l : List (Nat × Int)}

/-- A put replaces the entry of its ident; the order says that there is at most one. -/
theorem mem_putMarker (h : l.Pairwise fun a b => a.1 < b.1) (x : Nat × Int) :
    x ∈ putMarker ident chainage l ↔ x = (ident, chainage) ∨ x ∈ l ∧ x.1 ≠ ident := by
  induction l with
  | nil => simp [putMarker]
  | cons y l ih =>
    obtain ⟨i, c⟩ := y
    obtain ⟨hi, hl⟩ := List.pairwise_cons.mp h
    unfold putMarker
    split
    · next hlt =>
      have hne : x ∈ (i, c) :: l → x.1 ≠ ident := fun hx => by
        rcases List.mem_cons.mp hx with rfl | hx
        · exact hlt.ne'
        · exact (hlt.trans (hi x hx)).ne'
      rw [List.mem_cons, and_iff_left_of_imp hne]
    · split
      · next heq =>
        subst heq
        have hne : x ∈ l → x.1 ≠ ident := fun hx => (hi x hx).ne'
        have hhead : ¬(x = (ident, c) ∧ x.1 ≠ ident) := fun ⟨hx, hne⟩ => hne (congrArg Prod.fst hx)
        rw [List.mem_cons, List.mem_cons, or_and_right, and_iff_left_of_imp hne, or_iff_right hhead]
      · next hne =>
        have hhead : x = (i, c) → x.1 ≠ ident := fun hx => hx ▸ Ne.symm hne
        rw [List.mem_cons, List.mem_cons, ih hl, or_and_right, and_iff_left_of_imp hhead, or_left_comm]

/-- A put stands at its place in ident order. -/
theorem putMarker_pairwise (h : l.Pairwise fun a b => a.1 < b.1) :
    (putMarker ident chainage l).Pairwise fun a b => a.1 < b.1 := by
  induction l with
  | nil => exact List.pairwise_singleton _ _
  | cons y l ih =>
    obtain ⟨i, c⟩ := y
    obtain ⟨hi, hl⟩ := List.pairwise_cons.mp h
    unfold putMarker
    split
    · next hlt =>
      refine List.pairwise_cons.mpr ⟨fun x hx => ?_, h⟩
      rcases List.mem_cons.mp hx with rfl | hx
      · exact hlt
      · exact hlt.trans (hi x hx)
    · split
      · next heq => exact List.pairwise_cons.mpr ⟨fun x hx => heq ▸ hi x hx, hl⟩
      · next hge hne =>
        refine List.pairwise_cons.mpr ⟨fun x hx => ?_, ih hl⟩
        rcases (mem_putMarker hl x).mp hx with rfl | ⟨hx, -⟩
        · exact Nat.lt_of_le_of_ne (Nat.not_lt.mp hge) (Ne.symm hne)
        · exact hi x hx

end

/-! ### The requests (R118, R119) -/

section

variable {k : RequestKind} {p : PortId} {r : Request} {rest : List Request} {s : State} {i c : Word}

/-- A request that changes POS before it is answered: what SVC tested of it stands (R203). -/
theorem Serves.withPos (h : Serves k p r rest s) (x : Pos) : Serves k p r rest { s with pos := x } :=
  ⟨h.head, h.kind, h.idle, h.room, h.unreserved⟩

/-- The part with another marker table. -/
def State.withMarkers (s : State) (l : List (Nat × Int)) : State := { s with pos := { s.pos with markers := l } }

/-- The REPLY to an accepted edit of the marker table. -/
theorem Serves.reply_withMarkers (h : Serves k p r rest s) (l : List (Nat × Int)) (w : List Word) :
    reply p r.tag w ((s.setPort p ((s.port p).taken rest)).withMarkers l) =
      (s.withMarkers l).answered p rest (answerTo r w) :=
  (h.withPos _).reply_taken w

theorem Serves.markerPut_runs (h : Serves .markerPut p r rest s) (hp : r.payload = [i, c])
    (hh : s.svc.holder = some p) :
    exec (.markerPut p) s = .next (markerPutBody p r (s.setPort p ((s.port p).taken rest))) :=
  congrArg Host.Outcome.next (h.holder_runs (ok := exactly 2) (by rw [hp]; rfl) hh (markerPutBody p))

theorem Serves.markerDrop_runs (h : Serves .markerDrop p r rest s) (hp : r.payload = [i])
    (hh : s.svc.holder = some p) :
    exec (.markerDrop p) s = .next (markerDropBody p r (s.setPort p ((s.port p).taken rest))) :=
  congrArg Host.Outcome.next (h.holder_runs (ok := exactly 1) (by rw [hp]; rfl) hh (markerDropBody p))

theorem Serves.markerClear_runs (h : Serves .markerClear p r rest s) (hp : r.payload = [])
    (hh : s.svc.holder = some p) :
    exec (.markerClear p) s = .next (markerClearBody p r (s.setPort p ((s.port p).taken rest))) :=
  congrArg Host.Outcome.next (h.holder_runs (ok := exactly 0) (by rw [hp]; rfl) hh (markerClearBody p))

/-- MARKER_PUT is refused for a new ident at a full table, else done (R118). -/
theorem Serves.markerPut_cases (h : Serves .markerPut p r rest s) (hp : r.payload = [i, c]) :
    let held := (markerChainage i.toNat s.pos.markers).isSome
    let l := putMarker i.toNat c.toInt s.pos.markers
    markerPutBody p r (s.setPort p ((s.port p).taken rest)) =
      if held = false ∧ 512 ≤ s.pos.markers.length then s.answered p rest (refusal r .tableFull 0)
      else (s.withMarkers l).answered p rest (answerTo r [wordOfBool held, wordOfNat l.length]) := by
  intro held l
  rw [← h.refuse_taken, ← h.reply_withMarkers]
  simp only [markerPutBody, hp]
  rfl

/-- MARKER_DROP is done for an ident that is held, else refused (R119). -/
theorem Serves.markerDrop_cases (h : Serves .markerDrop p r rest s) (hp : r.payload = [i]) :
    let l := dropMarker i.toNat s.pos.markers
    markerDropBody p r (s.setPort p ((s.port p).taken rest)) =
      if (markerChainage i.toNat s.pos.markers).isSome then
        (s.withMarkers l).answered p rest (answerTo r [wordOfNat l.length])
      else s.answered p rest (refusal r .unknownId 0) := by
  intro l
  rw [← h.refuse_taken, ← h.reply_withMarkers]
  simp only [markerDropBody, hp]
  rfl

/-- MARKER_CLEAR is done in IDLE, else refused (R119). -/
theorem Serves.markerClear_cases (h : Serves .markerClear p r rest s) :
    markerClearBody p r (s.setPort p ((s.port p).taken rest)) =
      if s.run.state = .idle then
        (s.withMarkers []).answered p rest (answerTo r [wordOfNat s.pos.markers.length])
      else s.answered p rest (refusal r .wrongState 0) := by
  rw [← h.refuse_taken, ← h.reply_withMarkers]
  rfl

end

/-! ### The statement -/

/-- Settles O49: each request by the order of its tests, and the table that a put leaves (`mem_putMarker`,
`putMarker_pairwise`). -/
theorem markerEdits : Obligations.MarkerEdits := by
  intro p r rest s hh hordered
  refine ⟨fun i c h hp => ?_, fun i h hp => ?_, fun h hp => ?_⟩
  · intro held
    rw [h.markerPut_runs hp hh, h.markerPut_cases hp]
    have hheld : (markerChainage i.toNat s.pos.markers).isSome = true ↔ held := markerChainage_isSome
    refine ⟨fun hnew hfull => ?_, fun hroom => ⟨putMarker i.toNat c.toInt s.pos.markers, _,
      putMarker_pairwise hordered, mem_putMarker hordered, fun hold => ?_, fun hnew => ?_,
      congrArg Host.Outcome.next (if_neg ?_)⟩⟩
    · rw [if_pos ⟨Bool.eq_false_iff.mpr (mt hheld.mp hnew), hfull⟩]
    · rw [hheld.mpr hold]; rfl
    · rw [Bool.eq_false_iff.mpr (mt hheld.mp hnew)]; rfl
    · rintro ⟨hnew, hfull⟩
      exact hroom.elim (fun hold => Bool.eq_false_iff.mp hnew (hheld.mpr hold)) (Nat.not_lt.mpr hfull)
  · intro held l
    rw [h.markerDrop_runs hp hh, h.markerDrop_cases hp]
    exact ⟨fun hold => congrArg _ (if_pos (markerChainage_isSome.mpr hold)),
      fun hnew => congrArg _ (if_neg (mt markerChainage_isSome.mp hnew))⟩
  · rw [h.markerClear_runs hp hh, h.markerClear_cases]
    exact ⟨fun hidle => congrArg _ (if_pos hidle), fun hrun => congrArg _ (if_neg hrun)⟩

end Sys2Proof.Machine
end

section
/-!
PROOFS. MANUAL_FIX (R128, R129): its refusals, the offsets that it sets, and the notice of its rebase.
-/

namespace Sys2Proof.Machine

theorem inInt32_iff (x : Int) : inInt32 x = true ↔ -2147483648 ≤ x ∧ x ≤ 2147483647 := by
  rw [inInt32, Bool.and_eq_true, decide_eq_true_iff, decide_eq_true_iff]; rfl

/-! ### The position after a fix (R115, R129) -/

theorem Pos.manual_eq (x : Pos) (offset : Int) :
    x.manual offset = { x with
      applied := offset, target := offset, pendingRebase := true, state := .fixed, mismatch := 0, lastFix := none,
      manualFixes := min 65535 (x.manualFixes + 1) } := by
  rw [Pos.manual, inc16_eq]

/-- The offset for point `w` places the next point one step further. -/
theorem Pos.chainageAt_manualOffset (x : Pos) (c : Int) (w : Nat) :
    x.chainageAt (w + 1) (x.manualOffset c w) = c + x.sense.sign * 250 := by
  simp only [Pos.chainageAt, Pos.manualOffset, Nat.cast_add, Nat.cast_one]
  ring

/-! ### The notice of the rebase (R128) -/

/-- The words of the LOCATION notice of a MANUAL_FIX that sets `offset`, at point `w`. -/
def State.rebaseWords (s : State) (offset : Int) (w : Nat) : List Word :=
  [ 2#32, 0#32, 1#32, Word.absent, Word.absent, Word.absent,
    wordOfInt (max (-2147483648) (min 2147483647 (offset - s.pos.applied))), wordOfInt offset, wordOfInt offset, 0#32,
    wordOfInt s.odo.runDistance, wordOfNat s.now, wordOfNat (w + 1) ]

/-- The part after a MANUAL_FIX, before its answer. -/
def State.fixedAt (s : State) (offset : Int) (w : Nat) : State :=
  offerAll wantsLocation .location (s.rebaseWords offset w) { s with pos := s.pos.manual offset }

theorem locationNotice_manual {s : State} {w : Nat} (hw : s.store.w = some w) (offset : Int) :
    locationNotice .rebase none (offset - s.pos.applied) s.odo.runDistance s.now
      { s with pos := s.pos.manual offset } = s.fixedAt offset w := by
  simp only [locationNotice, hw, limit_eq (show int32Min ≤ int32Max by decide)]
  rfl

/-! ### A request that offers a notice before it is answered (R203 to R205) -/

theorem State.mapPorts_setPort (s : State) (p : PortId) (q : Port) (f : Port → Port) :
    (s.setPort p q).mapPorts f = (s.mapPorts f).setPort p (f q) := by
  cases p <;> rfl

theorem Port.offer_taken (q : Port) (n : Notice) (rest : List Request) :
    (q.taken rest).offer n = (q.offer n).taken rest := by
  rw [Port.taken, Port.taken, Port.offer_answered, Port.offer_replies]

section

variable {k : RequestKind} {p : PortId} {r : Request} {rest : List Request} {s : State}

/-- The taking of a request and an offer commute, where the offer's rule does not look at what the taking changes. -/
theorem offerAll_taken {selects : Port → Bool} (h : selects ((s.port p).taken rest) = selects (s.port p))
    (n : NoticeClass) (w : List Word) :
    offerAll selects n w (s.setPort p ((s.port p).taken rest)) =
      (offerAll selects n w s).setPort p (((offerAll selects n w s).port p).taken rest) := by
  rw [port_offerAll, offerAll, State.mapPorts_setPort, h, Port.offer_taken, ← apply_ite (Port.taken · rest)]
  rfl

@[simp] theorem offerAll_replies (selects : Port → Bool) (n : NoticeClass) (w : List Word) (s : State) (j : PortId) :
    ((offerAll selects n w s).port j).replies = (s.port j).replies := by
  rw [port_offerAll]
  split
  · exact Port.offer_replies _ _
  · rfl

/-- An offer leaves what SVC tests of a request. -/
theorem Serves.offered (h : Serves k p r rest s) (selects : Port → Bool) (n : NoticeClass) (w : List Word) :
    Serves k p r rest (offerAll selects n w s) := by
  have hinbox : ((offerAll selects n w s).port p).inbox = (s.port p).inbox := by
    rw [port_offerAll]; split <;> simp
  have hservice : ((offerAll selects n w s).port p).inService = (s.port p).inService := by
    rw [port_offerAll]; split <;> simp
  have hreplies := offerAll_replies selects n w s p
  exact ⟨hinbox.trans h.head, h.kind, hservice.trans h.idle, hreplies ▸ h.room, hreplies ▸ h.unreserved⟩

end

/-! ### The request (R129) -/

section

variable {p : PortId} {r : Request} {rest : List Request} {s : State} {c : Word} {w : Nat}

theorem Serves.manualFix_runs (h : Serves .manualFix p r rest s) (hp : r.payload = [c])
    (hh : s.svc.holder = some p) :
    exec (.manualFix p) s = .next (manualFixBody p r (s.setPort p ((s.port p).taken rest))) :=
  congrArg Host.Outcome.next (h.holder_runs (ok := exactly 1) (by rw [hp]; rfl) hh (manualFixBody p))

/-- The notice goes out before the answer. -/
theorem Serves.reply_fixedAt (h : Serves .manualFix p r rest s) (offset : Int) (v : List Word) :
    reply p r.tag v ((s.setPort p ((s.port p).taken rest)).fixedAt offset w) =
      (s.fixedAt offset w).answered p rest (answerTo r v) := by
  have htaken : (s.setPort p ((s.port p).taken rest)).fixedAt offset w =
      (s.fixedAt offset w).setPort p (((s.fixedAt offset w).port p).taken rest) :=
    offerAll_taken (s := { s with pos := s.pos.manual offset }) rfl _ _
  rw [htaken]
  exact ((h.withPos _).offered _ _ _).reply_taken v

/-- The tests of MANUAL_FIX in their order (R129). -/
theorem Serves.manualFix_cases (h : Serves .manualFix p r rest s) (hp : r.payload = [c]) (hw : s.store.w = some w) :
    let offset := s.pos.manualOffset c.toInt w
    manualFixBody p r (s.setPort p ((s.port p).taken rest)) =
      if s.run.state ≠ .running then s.answered p rest (refusal r .wrongState 0)
      else if inInt32 offset then
        (s.fixedAt offset w).answered p rest (answerTo r [wordOfNat (w + 1), wordOfInt offset])
      else s.answered p rest (refusal r .range 1) := by
  intro offset
  have hnotice := locationNotice_manual (s := s.setPort p ((s.port p).taken rest)) hw offset
  rw [← h.refuse_taken, ← h.refuse_taken, ← h.reply_fixedAt, ← hnotice]
  simp only [manualFixBody, hp, State.setPort_store, hw, Option.getD_some]
  rfl

/-- Every port that asks for LOCATION is told of the rebase (R128). -/
theorem fixedAt_port (s : State) (offset : Int) (w : Nat) (j : PortId) :
    (s.fixedAt offset w).port j =
      if wantsLocation (s.port j) then
        (s.port j).offer { cls := .location, tag := 0#8, payload := s.rebaseWords offset w }
      else s.port j :=
  port_offerAll _ _ _ _ j

theorem fixedAt_replies (s : State) (offset : Int) (w : Nat) (j : PortId) :
    ((s.fixedAt offset w).port j).replies = (s.port j).replies :=
  offerAll_replies _ _ _ _ j

end

/-! ### The statement -/

/-- Settles O52: the request by the order of its tests; the port that asks is told of the rebase as the others are, and
its answer stands behind its earlier ones. -/
theorem manualFixSetsBothOffsets : Obligations.ManualFixSetsBothOffsets := by
  intro p r rest c w s h hp hh hw offset fits
  have hfits : inInt32 (s.pos.manualOffset c.toInt w) = true ↔ fits := inInt32_iff _
  rw [h.manualFix_runs hp hh, h.manualFix_cases hp hw]
  refine ⟨fun hrun => congrArg _ (if_pos hrun), fun hrun hout => ?_, fun hrun hin => ?_⟩
  · rw [if_neg (not_not_intro hrun), if_neg (mt hfits.mp hout)]
  · rw [if_neg (not_not_intro hrun), if_pos (hfits.mpr hin)]
    refine ⟨_, rfl, Pos.manual_eq _ _, Pos.chainageAt_manualOffset _ _ _, ⟨fun j hj => ?_, ?_⟩, rfl⟩
    · exact (State.port_setPort_of_ne _ _ hj).trans (fixedAt_port s offset w j)
    · rw [State.answered, State.port_setPort, fixedAt_replies, fixedAt_port]
      rfl

end Sys2Proof.Machine
end

section
/-!
PROOFS. Levels of a value against the six limits of its parameter (R144).
-/

namespace Sys2Proof.Machine

section

variable {l1 l2 l3 : Nat} {x : Int}

/-- Level `n` of a side has a limit other than 0, and the magnitude exceeds it (R144). -/
def Exceeds (l1 l2 l3 : Nat) (x : Int) (n : Nat) : Prop :=
  1 ≤ n ∧ n ≤ 3 ∧ [0, l1, l2, l3].getD n 0 ≠ 0 ∧ ((([0, l1, l2, l3].getD n 0 : Nat) : Int) < x)

theorem Exceeds.pos {n : Nat} (h : Exceeds l1 l2 l3 x n) : 0 < x := by
  obtain ⟨-, -, -, hx⟩ := h
  omega

theorem exceeds_iff {n : Nat} : Exceeds l1 l2 l3 x n ↔
    n = 1 ∧ l1 ≠ 0 ∧ (l1 : Int) < x ∨ n = 2 ∧ l2 ≠ 0 ∧ (l2 : Int) < x ∨ n = 3 ∧ l3 ≠ 0 ∧ (l3 : Int) < x := by
  constructor
  · rintro ⟨hlo, hhi, hlimit⟩
    interval_cases n
    · exact .inl ⟨rfl, hlimit⟩
    · exact .inr (.inl ⟨rfl, hlimit⟩)
    · exact .inr (.inr ⟨rfl, hlimit⟩)
  · rintro (⟨rfl, h⟩ | ⟨rfl, h⟩ | ⟨rfl, h⟩) <;> exact ⟨by decide, by decide, h⟩

theorem Exceeds.le_levelOf {n : Nat} (h : Exceeds l1 l2 l3 x n) : n ≤ levelOf l1 l2 l3 x := by
  unfold levelOf
  rcases exceeds_iff.mp h with ⟨rfl, h1⟩ | ⟨rfl, h2⟩ | ⟨rfl, h3⟩
  · rw [if_pos h1]; split
    · decide
    · split <;> decide
  · rw [if_pos h2]; split <;> decide
  · rw [if_pos h3]

theorem exceeds_levelOf (h : 0 < levelOf l1 l2 l3 x) : Exceeds l1 l2 l3 x (levelOf l1 l2 l3 x) := by
  revert h
  unfold levelOf
  split
  · next h3 => exact fun _ => exceeds_iff.mpr (.inr (.inr ⟨rfl, h3⟩))
  · split
    · next h2 => exact fun _ => exceeds_iff.mpr (.inr (.inl ⟨rfl, h2⟩))
    · split
      · next h1 => exact fun _ => exceeds_iff.mpr (.inl ⟨rfl, h1⟩)
      · exact fun h => absurd h (by decide)

theorem levelOf_eq_iff {n : Nat} : 0 < levelOf l1 l2 l3 x ∧ levelOf l1 l2 l3 x = n ↔
    Exceeds l1 l2 l3 x n ∧ ∀ m, Exceeds l1 l2 l3 x m → m ≤ n := by
  constructor
  · rintro ⟨hpos, rfl⟩
    exact ⟨exceeds_levelOf hpos, fun m hm => hm.le_levelOf⟩
  · rintro ⟨hn, hmost⟩
    have hpos : 0 < levelOf l1 l2 l3 x := Nat.lt_of_lt_of_le hn.1 hn.le_levelOf
    exact ⟨hpos, Nat.le_antisymm (hmost _ (exceeds_levelOf hpos)) hn.le_levelOf⟩

theorem levelOf_pos_iff : 0 < levelOf l1 l2 l3 x ↔ ∃ n, Exceeds l1 l2 l3 x n :=
  ⟨fun h => ⟨_, exceeds_levelOf h⟩, fun ⟨_, h⟩ => Nat.lt_of_lt_of_le h.1 h.le_levelOf⟩

/-- No value exceeds a limit on both sides. -/
theorem levelOf_one_side {k1 k2 k3 : Nat} : ¬(0 < levelOf l1 l2 l3 x ∧ 0 < levelOf k1 k2 k3 (-x)) := by
  rw [levelOf_pos_iff, levelOf_pos_iff]
  rintro ⟨⟨_, high⟩, ⟨_, low⟩⟩
  have hhigh := high.pos
  have hlow := low.pos
  omega

end

section

variable {l : Limits} {v : Int} {n : Nat}

theorem judge_high_iff : l.judge v = some (n, .high) ↔
    0 < levelOf l.hi1 l.hi2 l.hi3 v ∧ levelOf l.hi1 l.hi2 l.hi3 v = n := by
  unfold Limits.judge
  dsimp only
  split
  · next high => simp [high]
  · next high => split <;> simp [high]

theorem judge_low_iff : l.judge v = some (n, .low) ↔
    0 < levelOf l.lo1 l.lo2 l.lo3 (-v) ∧ levelOf l.lo1 l.lo2 l.lo3 (-v) = n := by
  unfold Limits.judge
  dsimp only
  split
  · next high => simp [not_and.mp levelOf_one_side high]
  · split
    · next low => simp [low]
    · next low => simp [low]

theorem judge_none_iff : l.judge v = none ↔
    ¬0 < levelOf l.hi1 l.hi2 l.hi3 v ∧ ¬0 < levelOf l.lo1 l.lo2 l.lo3 (-v) := by
  unfold Limits.judge
  dsimp only
  split
  · next high => simp [high]
  · next high =>
    split
    · next low => simp [low]
    · next low => simp [high, low]

end

/-- Settles O26: each side by `levelOf_eq_iff`; a level of one side leaves the other at 0 (`levelOf_one_side`). -/
theorem levelIsTheHighestExceeded : Obligations.LevelIsTheHighestExceeded := by
  intro l v
  have hone := levelOf_one_side (l1 := l.hi1) (l2 := l.hi2) (l3 := l.hi3) (x := v)
    (k1 := l.lo1) (k2 := l.lo2) (k3 := l.lo3)
  have hnone := judge_none_iff (l := l) (v := v)
  rw [levelOf_pos_iff, levelOf_pos_iff] at hone hnone
  exact ⟨fun n => judge_high_iff.trans levelOf_eq_iff, fun n => judge_low_iff.trans levelOf_eq_iff,
    hnone.trans (and_congr not_exists not_exists), hone⟩

end Sys2Proof.Machine
end

section
/-!
PROOFS. The protected horizon (R140), lookups by id, and SECTION_DROP and SECTION_CLEAR (R141, R142).
-/

namespace Sys2Proof.Machine

/-! ### The protected horizon (R140) -/

/-- Some of the range lies on the train's side of the horizon of a run (R140). -/
def State.Near (s : State) (start stop : Int) : Prop :=
  s.run.state = .running ∧ ∃ c, s.pos.lastChainage = some c ∧
    ((s.pos.sense = .rising ∧ start < c + 200000) ∨ (s.pos.sense = .falling ∧ c - 200000 < stop))

theorem clearOfHorizon_iff {s : State} {start stop : Int} :
    s.clearOfHorizon start stop = true ↔ ¬s.Near start stop := by
  unfold State.clearOfHorizon State.horizon State.Near
  by_cases hrun : s.run.state = .running
  · rw [if_pos hrun]
    cases s.pos.lastChainage with
    | none => simp
    | some c => cases s.pos.sense <;> simp [hrun, Sense.sign, ← Int.sub_eq_add_neg]
  · simp [hrun]

/-! ### Lookups by id -/

theorem findSection_isSome {id : Nat} {l : List SectionEntry} :
    (findSection id l).isSome = true ↔ ∃ e ∈ l, e.id = id := by
  simp [findSection, List.find?_isSome]

/-! ### The requests (R141, R142) -/

section

variable {k : RequestKind} {p : PortId} {r : Request} {rest : List Request} {s : State} {w : Word}

/-- The part with another CLS. -/
def State.withCls (s : State) (x : Cls) : State := { s with cls := x }

/-- A request that changes CLS before it is answered: what SVC tested of it stands (R203). -/
theorem Serves.withCls (h : Serves k p r rest s) (x : Cls) : Serves k p r rest (s.withCls x) :=
  ⟨h.head, h.kind, h.idle, h.room, h.unreserved⟩

/-- The REPLY to an accepted edit of CLS's tables. -/
theorem Serves.reply_withCls (h : Serves k p r rest s) (x : Cls) (v : List Word) :
    reply p r.tag v ((s.setPort p ((s.port p).taken rest)).withCls x) =
      (s.withCls x).answered p rest (answerTo r v) :=
  (h.withCls x).reply_taken v

theorem Serves.sectionDrop_runs (h : Serves .sectionDrop p r rest s) (hp : r.payload = [w])
    (hh : s.svc.holder = some p) :
    exec (.sectionDrop p) s = .next (sectionDropBody p r (s.setPort p ((s.port p).taken rest))) :=
  congrArg Host.Outcome.next (h.holder_runs (ok := exactly 1) (by rw [hp]; rfl) hh (sectionDropBody p))

theorem Serves.sectionClear_runs (h : Serves .sectionClear p r rest s) (hp : r.payload = [])
    (hh : s.svc.holder = some p) :
    exec (.sectionClear p) s = .next (sectionClearBody p r (s.setPort p ((s.port p).taken rest))) :=
  congrArg Host.Outcome.next (h.holder_runs (ok := exactly 0) (by rw [hp]; rfl) hh (sectionClearBody p))

/-- SECTION_DROP is refused for an id that no entry holds (R141). -/
theorem Serves.sectionDrop_unknown (h : Serves .sectionDrop p r rest s) (hp : r.payload = [w])
    (hw : findSection w.toNat s.cls.sections = none) :
    sectionDropBody p r (s.setPort p ((s.port p).taken rest)) = s.answered p rest (refusal r .unknownId 0) := by
  have hid : payloadWord r.payload 1 = w := by rw [hp]; rfl
  rw [← h.refuse_taken]
  simp only [sectionDropBody, hid, State.setPort_cls, hw]

/-- SECTION_DROP of an entry that is held: the horizon, then the edit (R141). -/
theorem Serves.sectionDrop_known (h : Serves .sectionDrop p r rest s) (hp : r.payload = [w]) {e : SectionEntry}
    (hw : findSection w.toNat s.cls.sections = some e) :
    let l := removeSection w.toNat s.cls.sections
    sectionDropBody p r (s.setPort p ((s.port p).taken rest)) =
      if s.clearOfHorizon e.start e.stop then
        (s.withCls (s.cls.edited l)).answered p rest (answerTo r [wordOfNat l.length])
      else s.answered p rest (refusal r .tooClose 0) := by
  intro l
  have hid : payloadWord r.payload 1 = w := by rw [hp]; rfl
  rw [← h.refuse_taken, ← h.reply_withCls]
  simp only [sectionDropBody, hid, State.setPort_cls, hw]
  rfl

/-- SECTION_CLEAR is done in IDLE, else refused (R142). -/
theorem Serves.sectionClear_cases (h : Serves .sectionClear p r rest s) :
    sectionClearBody p r (s.setPort p ((s.port p).taken rest)) =
      if s.run.state = .idle then
        (s.withCls (s.cls.edited [])).answered p rest (answerTo r [wordOfNat s.cls.sections.length])
      else s.answered p rest (refusal r .wrongState 0) := by
  rw [← h.refuse_taken, ← h.reply_withCls]
  rfl

end

/-! ### The statement -/

/-- Settles O48: each request by the order of its tests, the horizon by `clearOfHorizon_iff`. -/
theorem sectionDropAndClear : Obligations.SectionDropAndClear := by
  intro p r rest s hh
  refine ⟨fun w h hp => ⟨fun hw => ?_, fun e hw => ?_⟩, fun h hp => ?_⟩
  · rw [h.sectionDrop_runs hp hh, h.sectionDrop_unknown hp hw]
  · rw [h.sectionDrop_runs hp hh, h.sectionDrop_known hp hw]
    exact ⟨fun hnear => congrArg _ (if_neg (mt clearOfHorizon_iff.mp (not_not_intro hnear))),
      fun hclear => congrArg _ (if_pos (clearOfHorizon_iff.mpr hclear))⟩
  · rw [h.sectionClear_runs hp hh, h.sectionClear_cases]
    exact ⟨fun hidle => congrArg _ (if_pos hidle), fun hrun => congrArg _ (if_neg hrun)⟩

end Sys2Proof.Machine
end

section
/-!
PROOFS. LOAD_THRESHOLDS (R145, R146): the halves of its words as limits, their test, and the class that it replaces.
-/

namespace Sys2Proof.Machine

/-! ### The limits of a payload (R145) -/

section

variable {l : List Word} {i : Nat}

theorem limitAt_eq : limitAt l i = (l.getD (1 + i / 2) 0#32).toNat / 65536 ^ (i % 2) % 65536 := by
  have hword : payloadWord l (2 + i / 2) = l.getD (1 + i / 2) 0#32 := by
    rw [payloadWord, show 2 + i / 2 - 1 = 1 + i / 2 by omega]
  unfold limitAt
  rw [hword]
  rcases Nat.mod_two_eq_zero_or_one i with hi | hi
  · simp [hi]
  · simp [hi, Nat.shiftRight_eq_div_pow]

/-- The earlier limits of limit `i`'s side are those of its three that stand before it. -/
theorem limitOk_iff : limitOk l i = true ↔ limitAt l i ≤ 32767 ∧
    (limitAt l i = 0 ∨ ∀ j, j < i → j / 3 = i / 3 → limitAt l j < limitAt l i) := by
  have hside : (∀ k < i % 3, limitAt l (i - i % 3 + k) < limitAt l i) ↔
      ∀ j, j < i → j / 3 = i / 3 → limitAt l j < limitAt l i := by
    constructor
    · intro h j hj hsame
      have hplace : i - i % 3 + j % 3 = j := by omega
      exact hplace ▸ h (j % 3) (by omega)
    · exact fun h k hk => h _ (by omega) (by omega)
  simp [limitOk, hside]

end

/-! ### The threshold sets (R146) -/

theorem thresholdsOf_get (l : List Word) (q : Param) : (thresholdsOf l).get q = limitsAt l q := by
  cases q <;> rfl

theorem Cls.loaded_get (t : Cls) (k j : Fin 8) (x : PerParam Limits) :
    (t.loaded k x).thresholds.get j = if k = j then x else t.thresholds.get j := by
  rw [Cls.loaded, Vector.get_eq_getElem, Vector.getElem_set, Vector.get_eq_getElem]
  simp only [Fin.ext_iff]

/-! ### The request (R145, R146) -/

section

variable {p : PortId} {r : Request} {rest : List Request} {s : State}

theorem Serves.loadThresholds_runs (h : Serves .loadThresholds p r rest s) (hl : r.payload.length = 25)
    (hh : s.svc.holder = some p) :
    exec (.loadThresholds p) s = .next (loadThresholdsBody p r (s.setPort p ((s.port p).taken rest))) :=
  congrArg Host.Outcome.next (h.holder_runs (ok := exactly 25) (by rw [hl]; rfl) hh (loadThresholdsBody p))

theorem Serves.loadThresholds_running (h : Serves .loadThresholds p r rest s) (hrun : s.run.state ≠ .idle) :
    loadThresholdsBody p r (s.setPort p ((s.port p).taken rest)) = s.answered p rest (refusal r .wrongState 0) := by
  rw [← h.refuse_taken]
  exact if_pos hrun

theorem Serves.loadThresholds_class (h : Serves .loadThresholds p r rest s) (hidle : s.run.state = .idle)
    (hclass : 7 < (r.payload.getD 0 0#32).toNat) :
    loadThresholdsBody p r (s.setPort p ((s.port p).taken rest)) = s.answered p rest (refusal r .range 1) := by
  rw [← h.refuse_taken]
  exact (if_neg (not_not_intro hidle)).trans (if_pos hclass)

theorem Serves.loadThresholds_limit (h : Serves .loadThresholds p r rest s) (hidle : s.run.state = .idle)
    (hclass : (r.payload.getD 0 0#32).toNat ≤ 7) {i : Nat}
    (hi : (List.range 48).find? (fun i => !limitOk r.payload i) = some i) :
    loadThresholdsBody p r (s.setPort p ((s.port p).taken rest)) =
      s.answered p rest (refusal r .range (2 + i)) := by
  rw [← h.refuse_taken]
  refine (if_neg (not_not_intro hidle)).trans ((if_neg (Nat.not_lt.mpr hclass)).trans ?_)
  rw [hi]

theorem Serves.loadThresholds_loads (h : Serves .loadThresholds p r rest s) (hidle : s.run.state = .idle)
    (hclass : (r.payload.getD 0 0#32).toNat ≤ 7)
    (hok : (List.range 48).find? (fun i => !limitOk r.payload i) = none) :
    loadThresholdsBody p r (s.setPort p ((s.port p).taken rest)) =
      (s.withCls (s.cls.loaded (Fin.ofNat 8 (r.payload.getD 0 0#32).toNat) (thresholdsOf r.payload))).answered p rest
        (answerTo r [wordOfNat (r.payload.getD 0 0#32).toNat]) := by
  rw [← h.reply_withCls]
  refine (if_neg (not_not_intro hidle)).trans ((if_neg (Nat.not_lt.mpr hclass)).trans ?_)
  rw [hok]
  rfl

end

/-! ### The statement -/

/-- Settles O46: the request by the order of its tests, each limit by `limitOk_iff`, the sets by `Cls.loaded_get`. -/
theorem loadThresholdsReplacesOneClass : Obligations.LoadThresholdsReplacesOneClass := by
  intro p r rest s h hl hh cls limit passes
  have hlimit : ∀ i, limitAt r.payload i = limit i := fun i => limitAt_eq
  have hpasses : ∀ i, limitOk r.payload i = true ↔ passes i := fun i => by
    rw [limitOk_iff]; simp only [hlimit, passes]
  rw [h.loadThresholds_runs hl hh]
  refine ⟨fun hrun => by rw [h.loadThresholds_running hrun],
    fun hidle hclass => by rw [h.loadThresholds_class hidle hclass], ?_, ?_⟩
  · intro i hidle hclass hi hfails hearlier
    rw [h.loadThresholds_limit hidle hclass (i := i)]
    exact List.find?_range_eq_some.mpr ⟨by rw [Bool.not_eq_true', Bool.eq_false_iff]; exact mt (hpasses i).mp hfails,
      List.mem_range.mpr hi, fun j hj => by rw [Bool.not_not]; exact (hpasses j).mpr (hearlier j hj)⟩
  · intro hidle hclass hall
    have hnone : (List.range 48).find? (fun i => !limitOk r.payload i) = none :=
      List.find?_range_eq_none.mpr fun i hi => by rw [Bool.not_not]; exact (hpasses i).mpr (hall i hi)
    have hval : ((Fin.ofNat 8 cls : Fin 8) : Nat) = cls := Nat.mod_eq_of_lt (Nat.lt_succ_of_le hclass)
    refine ⟨_, congrArg _ (h.loadThresholds_loads hidle hclass hnone), ?_, fun k q => ⟨fun hk => ?_, fun hk => ?_⟩⟩
    · rw [← inc16_eq]; rfl
    · exact (Cls.loaded_get _ _ _ _).trans (if_neg fun e => hk (by rw [← e]; exact hval))
    · rw [State.withCls, Cls.loaded_get, if_pos (Fin.ext (hval.trans hk.symm)), thresholdsOf_get]
      simp only [limitsAt, hlimit, Nat.add_zero]

end Sys2Proof.Machine
end

section
/-!
PROOFS. READ_TABLE (R147, R148, R188, R216): the entries that fit a reply, the words of a section entry, and the words
of a threshold set.
-/

namespace Sys2Proof.Machine

/-! ### Blocks of one length -/

section

variable {α β : Type} {f : α → List β} {k : Nat}

theorem length_flatMap_blocks (hk : ∀ a, (f a).length = k) (l : List α) : (l.flatMap f).length = k * l.length := by
  induction l with
  | nil => rfl
  | cons a l ih => rw [List.flatMap_cons, List.length_append, hk, ih, List.length_cons, Nat.mul_succ, Nat.add_comm]

/-- Place `j` of block `i`. -/
theorem getD_flatMap_blocks (hk : ∀ a, (f a).length = k) {l : List α} {i j : Nat} (a : α) (d : β)
    (hi : i < l.length) (hj : j < k) : (l.flatMap f).getD (k * i + j) d = (f (l.getD i a)).getD j d := by
  induction l generalizing i with
  | nil => exact absurd hi (Nat.not_lt_zero i)
  | cons b l ih =>
    rw [List.flatMap_cons]
    cases i with
    | zero => rw [Nat.mul_zero, Nat.zero_add, List.getD_append _ _ _ _ (by rw [hk]; exact hj)]; rfl
    | succ i =>
      have hplace : k * (i + 1) + j - k = k * i + j := by rw [Nat.mul_succ]; omega
      rw [List.getD_append_right _ _ _ _ (by rw [hk, Nat.mul_succ]; omega), hk, hplace]
      exact ih (Nat.lt_of_succ_lt_succ hi)

end

/-! ### The entries that fit (R147) -/

section

variable {room : Nat} {e : List Word} {l : List (List Word)}

theorem fitEntries_cons_of_le (h : e.length ≤ room) : fitEntries room (e :: l) =
    ((fitEntries (room - e.length) l).1 + 1, e ++ (fitEntries (room - e.length) l).2) :=
  if_pos h

theorem fitEntries_cons_of_lt (h : room < e.length) : fitEntries room (e :: l) = (0, []) :=
  if_neg (Nat.not_le.mpr h)

end

theorem fitEntries_words (room : Nat) (l : List (List Word)) :
    (fitEntries room l).2 = (l.take (fitEntries room l).1).flatten := by
  induction l generalizing room with
  | nil => rfl
  | cons e l ih =>
    rcases Nat.lt_or_ge room e.length with h | h
    · rw [fitEntries_cons_of_lt h]; rfl
    · rw [fitEntries_cons_of_le h, List.take_succ_cons, List.flatten_cons, ih]

theorem fitEntries_fits (room : Nat) (l : List (List Word)) :
    ((l.take (fitEntries room l).1).flatten).length ≤ room := by
  induction l generalizing room with
  | nil => exact Nat.zero_le _
  | cons e l ih =>
    rcases Nat.lt_or_ge room e.length with h | h
    · rw [fitEntries_cons_of_lt h]; exact Nat.zero_le _
    · have hrest := ih (room - e.length)
      rw [fitEntries_cons_of_le h, List.take_succ_cons, List.flatten_cons, List.length_append]
      omega

/-- One entry more would not fit. -/
theorem fitEntries_most (room : Nat) (l : List (List Word)) (h : (fitEntries room l).1 < l.length) :
    room < ((l.take ((fitEntries room l).1 + 1)).flatten).length := by
  induction l generalizing room with
  | nil => exact absurd h (Nat.not_lt_zero _)
  | cons e l ih =>
    rcases Nat.lt_or_ge room e.length with hfull | hfits
    · rw [fitEntries_cons_of_lt hfull, List.take_succ_cons, List.flatten_cons, List.length_append]
      exact Nat.lt_add_right _ hfull
    · rw [fitEntries_cons_of_le hfits] at h ⊢
      have hrest := ih (room - e.length) (Nat.lt_of_succ_lt_succ h)
      dsimp only
      rw [List.take_succ_cons, List.flatten_cons, List.length_append]
      omega

theorem fitEntries_count_of_length {k : Nat} (hk : 0 < k) (room : Nat) {l : List (List Word)}
    (h : ∀ e ∈ l, e.length = k) : (fitEntries room l).1 = min l.length (room / k) := by
  induction l generalizing room with
  | nil => exact (Nat.zero_min _).symm
  | cons e l ih =>
    have he : e.length = k := h e List.mem_cons_self
    have hl : ∀ e ∈ l, e.length = k := fun e hel => h e (List.mem_cons_of_mem _ hel)
    rcases Nat.lt_or_ge room e.length with hfull | hfits
    · rw [fitEntries_cons_of_lt hfull, Nat.div_eq_of_lt (he ▸ hfull), Nat.min_zero]
    · have hmore : room / k = (room - k) / k + 1 := Nat.div_eq_sub_div hk (he ▸ hfits)
      rw [fitEntries_cons_of_le hfits, List.length_cons, hmore, he, Nat.add_min_add_right, ← ih _ hl]

/-- A page of a table: the entries held, the next index, and `n` entries from index `a` on (R147). -/
def tablePage (entries : List (List Word)) (a n : Nat) : List Word :=
  [ wordOfNat entries.length, if a + n < entries.length then wordOfNat (a + n) else Word.absent ] ++
    ((entries.drop a).take n).flatten

theorem tableReply_eq (entries : List (List Word)) (a room : Nat) :
    tableReply entries a room = tablePage entries a (fitEntries (room - 3) (entries.drop a)).1 := by
  rw [tableReply, tablePage, fitEntries_words]

/-! ### The request (R216) -/

section

variable {p : PortId} {r : Request} {rest : List Request} {s : State} {w a : Word}

theorem Serves.readTable_runs (h : Serves .readTable p r rest s) (hp : r.payload = [w, a]) :
    exec (.readTable p) s = .next (readTableBody p r (s.setPort p ((s.port p).taken rest))) :=
  congrArg Host.Outcome.next (h.body_runs (ok := exactly 2) (by rw [hp]; rfl) (readTableBody p))

theorem Serves.readTable_settings (h : Serves .readTable p r rest s) (hp : r.payload = [0#32, a]) :
    readTableBody p r (s.setPort p ((s.port p).taken rest)) = s.answered p rest
      (answerTo r ((s.run.settings.fields.map wordOfNat).take ((s.port p).options.maxReplyWords - 1))) := by
  rw [← h.reply_taken, readTableBody, hp]
  simp only [maxWords, State.port_setPort]
  rfl

theorem Serves.readTable_thresholds (h : Serves .readTable p r rest s) (hp : r.payload = [1#32, a]) :
    readTableBody p r (s.setPort p ((s.port p).taken rest)) =
      if 7 < a.toNat then s.answered p rest (refusal r .range 2)
      else s.answered p rest (answerTo r ((wordOfNat a.toNat ::
        thresholdWords (s.cls.thresholds.get (Fin.ofNat 8 a.toNat))).take ((s.port p).options.maxReplyWords - 1))) := by
  rw [← h.reply_taken, ← h.refuse_taken, readTableBody, hp]
  simp only [maxWords, State.port_setPort]
  rfl

theorem Serves.readTable_sections (h : Serves .readTable p r rest s) (hp : r.payload = [2#32, a]) :
    readTableBody p r (s.setPort p ((s.port p).taken rest)) = s.answered p rest (answerTo r
      (tableReply (s.cls.sections.map SectionEntry.words) a.toNat (s.port p).options.maxReplyWords)) := by
  rw [← h.reply_taken, readTableBody, hp]
  simp only [maxWords, State.port_setPort]
  rfl

theorem Serves.readTable_markers (h : Serves .readTable p r rest s) (hp : r.payload = [3#32, a]) :
    readTableBody p r (s.setPort p ((s.port p).taken rest)) = s.answered p rest (answerTo r
      (tableReply (s.pos.markers.map fun m => [wordOfNat m.1, wordOfInt m.2]) a.toNat
        (s.port p).options.maxReplyWords)) := by
  rw [← h.reply_taken, readTableBody, hp]
  simp only [maxWords, State.port_setPort]
  rfl

theorem Serves.readTable_unknown (h : Serves .readTable p r rest s) (hp : r.payload = [w, a]) (hw : 3 < w.toNat) :
    readTableBody p r (s.setPort p ((s.port p).taken rest)) = s.answered p rest (refusal r .range 1) := by
  have htable : payloadWord r.payload 1 = w := by rw [hp]; rfl
  rw [← h.refuse_taken, readTableBody, htable]
  obtain ⟨n, hn⟩ : ∃ n, w.toNat = n + 4 := ⟨w.toNat - 4, by omega⟩
  rw [hn]
  rfl

end

/-! ### A section entry (R147) -/

theorem wordOfBytes_byte (a b c d : Byte) {j : Nat} (hj : j < 4) :
    (wordOfBytes a b c d).extractLsb' (8 * j) 8 = [a, b, c, d].getD j 0#8 := by
  have habove : ∀ j, (wordOfBytes a b c d).extractLsb' (8 * (j + 1)) 8 = (d ++ c ++ b).extractLsb' (8 * j) 8 :=
    fun j => (BitVec.extractLsb'_append_eq_of_le (by omega)).trans (by rw [Nat.mul_succ, Nat.add_sub_cancel])
  interval_cases j
  · exact BitVec.extractLsb'_append_eq_right
  · exact (habove 0).trans BitVec.extractLsb'_append_eq_right
  · exact (habove 1).trans ((BitVec.extractLsb'_append_eq_of_le (by decide)).trans BitVec.extractLsb'_append_eq_right)
  · exact (habove 2).trans ((BitVec.extractLsb'_append_eq_of_le (by decide)).trans BitVec.extractLsb'_append_eq_left)

theorem packLabel_length (l : List Byte) : (packLabel l).length = (l.length + 3) / 4 := by
  induction l using packLabel.induct with
  | case1 => rfl
  | case2 a b c d rest ih => simp only [packLabel, List.length_cons, ih]; omega
  | case3 a b c => simp [packLabel]
  | case4 a b => simp [packLabel]
  | case5 a => simp [packLabel]

/-- Four characters in a word, in front of others. -/
theorem wordOfBytes_char {a b c d : Byte} {l : List Word} {rest : List Byte}
    (h : ∀ i, (l.getD (i / 4) 0#32).extractLsb' (8 * (i % 4)) 8 = rest.getD i 0#8) (i : Nat) :
    ((wordOfBytes a b c d :: l).getD (i / 4) 0#32).extractLsb' (8 * (i % 4)) 8 =
      (a :: b :: c :: d :: rest).getD i 0#8 := by
  rcases Nat.lt_or_ge i 4 with hi | hi
  · rw [Nat.div_eq_of_lt hi, Nat.mod_eq_of_lt hi]
    refine (wordOfBytes_byte a b c d hi).trans ?_
    interval_cases i <;> rfl
  · obtain ⟨i, rfl⟩ := Nat.exists_eq_add_of_le' hi
    rw [Nat.add_div_right i (by decide), Nat.add_mod_right]
    exact h i

/-- Character `i` of a label, and 0 behind its end (R138, R147). -/
theorem packLabel_char (l : List Byte) (i : Nat) :
    ((packLabel l).getD (i / 4) 0#32).extractLsb' (8 * (i % 4)) 8 = l.getD i 0#8 := by
  have hnil : ∀ i, (([] : List Word).getD (i / 4) 0#32).extractLsb' (8 * (i % 4)) 8 = ([] : List Byte).getD i 0#8 :=
    fun _ => BitVec.extractLsb'_zero
  induction l using packLabel.induct generalizing i with
  | case1 => exact hnil i
  | case2 a b c d rest ih => exact wordOfBytes_char ih i
  | case3 a b c => exact (wordOfBytes_char hnil i).trans (by rcases i with _ | _ | _ | _ | i <;> rfl)
  | case4 a b => exact (wordOfBytes_char hnil i).trans (by rcases i with _ | _ | _ | _ | i <;> rfl)
  | case5 a => exact (wordOfBytes_char hnil i).trans (by rcases i with _ | _ | _ | _ | i <;> rfl)

theorem SectionEntry.words_label (e : SectionEntry) (i : Nat) :
    e.words.getD (5 + i) 0#32 = (packLabel (e.label.getD [])).getD i 0#32 := by
  rw [Nat.add_comm]; rfl

/-! ### A threshold set (R145, R148) -/

theorem pairWords_length : ∀ l : List Nat, (pairWords l).length = l.length / 2
  | [] => rfl
  | [_] => by simp [pairWords]
  | a :: b :: rest => by
    rw [pairWords, List.length_cons, pairWords_length rest]
    exact (Nat.add_div_right _ (by decide)).symm

theorem pairWords_half : ∀ {l : List Nat} {i : Nat}, i / 2 < l.length / 2 →
    ((pairWords l).getD (i / 2) 0#32).extractLsb' (16 * (i % 2)) 16 = BitVec.ofNat 16 (l.getD i 0)
  | [], _, h | [_], _, h => absurd h (by simp)
  | _ :: _ :: _, 0, _ => wordOfHalves_low _ _
  | _ :: _ :: _, 1, _ => wordOfHalves_high _ _
  | a :: b :: rest, i + 2, h => by
    have hrest : i / 2 < rest.length / 2 := by simp only [List.length_cons] at h; omega
    rw [Nat.add_div_right i (by decide), Nat.add_mod_right]
    exact pairWords_half hrest

/-- Every parameter's limits are six. -/
theorem Limits.length_list (l : Limits) : l.list.length = 6 := rfl

theorem length_flatMap_list (t : PerParam Limits) : (Param.all.flatMap fun q => (t.get q).list).length = 48 :=
  length_flatMap_blocks (fun q => (t.get q).length_list) _

theorem thresholdWords_length (t : PerParam Limits) : (thresholdWords t).length = 24 := by
  rw [thresholdWords, pairWords_length, length_flatMap_list]

/-- A parameter stands in the list of all at its number (00 section 0.4.6). -/
theorem Param.all_code (p : Param) : p.code < 8 ∧ Param.all.getD p.code p = p := by
  cases p <;> exact ⟨by decide, rfl⟩

theorem thresholdWords_half (t : PerParam Limits) (p : Param) {j : Nat} (hj : j < 6) :
    ((thresholdWords t).getD ((6 * p.code + j) / 2) 0#32).extractLsb' (16 * ((6 * p.code + j) % 2)) 16 =
      BitVec.ofNat 16 ((t.get p).list.getD j 0) := by
  obtain ⟨hcode, hp⟩ := p.all_code
  rw [thresholdWords, pairWords_half (by rw [length_flatMap_list]; omega),
    getD_flatMap_blocks (fun q => (t.get q).length_list) p _ hcode hj, hp]

/-! ### The statement -/

/-- Settles O39: the entries of a page by what `fitEntries` takes of the table, an entry and a threshold set word by
word. -/
theorem readTableReturnsTheTable : Obligations.ReadTableReturnsTheTable := by
  refine ⟨fun p r rest w a s h hp => ?_, fun e => ?_, fun t => ⟨thresholdWords_length t, fun n p hn => ?_⟩⟩
  · intro room paged
    rw [h.readTable_runs hp]
    refine ⟨?_, ?_, ?_, ?_, ?_, fun hw => by rw [h.readTable_unknown hp hw]⟩
    · rintro rfl
      rw [h.readTable_settings hp]
    · rintro rfl hrange
      rw [h.readTable_thresholds hp, if_pos hrange]
    · rintro rfl hrange
      rw [h.readTable_thresholds hp, if_neg (Nat.not_lt.mpr hrange), wordOfNat, BitVec.ofNat_toNat, BitVec.setWidth_eq]
    · rintro rfl
      rw [h.readTable_sections hp, tableReply_eq]
      refine ⟨_, rfl, fitEntries_fits _ _, fun hmore => fitEntries_most _ _ ?_⟩
      rw [List.length_drop, List.length_map]
      exact Nat.lt_sub_of_add_lt (Nat.add_comm _ _ ▸ hmore)
    · rintro rfl
      rw [h.readTable_markers hp, tableReply_eq, fitEntries_count_of_length (k := 2) (by decide), List.length_drop,
        List.length_map]
      · rfl
      · intro e he
        obtain ⟨m, -, rfl⟩ := List.mem_map.mp (List.mem_of_mem_drop he)
        rfl
  · intro w label
    refine ⟨?_, rfl, rfl, rfl, wordOfHalves_low _ _, wordOfHalves_high _ _, rfl, fun i _ => ?_⟩
    · rw [← packLabel_length]
      exact Nat.add_comm (packLabel label).length 5
    · exact (congrArg _ (e.words_label _)).trans (packLabel_char label i)
  · have hcode : n = p.code := by revert hn; cases p <;> simp [Param.code]
    rw [hcode]
    exact fun j hj => thresholdWords_half t p hj

end Sys2Proof.Machine
end

section
/-!
PROOFS. SECTION_PUT (R138 to R140): the seven checks of its payload, the tests of the entry against the table and the
horizon, and the place that it takes.
-/

namespace Sys2Proof.Machine

/-! ### The label of a payload (R138) -/

section

variable {l : List Word} {n i : Nat}

/-- Label character `i` of a SECTION_PUT, from word 7 on (R138). -/
def putChar (l : List Word) (i : Nat) : Nat := (payloadWord l (7 + i / 4)).toNat / 256 ^ (i % 4) % 256

/-- How many label characters a SECTION_PUT announces (R138). -/
def putLength (l : List Word) : Nat := if payloadWord l 6 = Word.absent then 0 else (payloadWord l 6).toNat

/-- The label that a SECTION_PUT carries (R138). -/
def putLabel (l : List Word) : List Byte := (List.range (putLength l)).map fun i => BitVec.ofNat 8 (putChar l i)

theorem wordBytes_getD (w : Word) {j : Nat} (hj : j < 4) :
    (wordBytes w).getD j 0#8 = BitVec.ofNat 8 (w.toNat / 256 ^ j % 256) := by
  have hbyte : (wordBytes w).getD j 0#8 = w.extractLsb' (8 * j) 8 := by interval_cases j <;> rfl
  apply BitVec.eq_of_toNat_eq
  rw [hbyte, BitVec.extractLsb'_toNat, Nat.shiftRight_eq_div_pow, Nat.pow_mul, BitVec.toNat_ofNat]
  exact (Nat.mod_mod _ _).symm

theorem labelBytes_eq (h : l.length = 6 + (n + 3) / 4) :
    labelBytes l n = (List.range n).map fun i => BitVec.ofNat 8 (putChar l i) := by
  have hwords : (l.drop 6).length = (n + 3) / 4 := by rw [List.length_drop, h, Nat.add_sub_cancel_left]
  have hbytes : ((l.drop 6).flatMap wordBytes).length = 4 * ((n + 3) / 4) := by
    rw [length_flatMap_blocks (k := 4) (fun _ => rfl), hwords]
  apply List.ext_getElem
  · rw [labelBytes, List.length_take, hbytes, List.length_map, List.length_range]; omega
  · intro i hi hrange
    have hn : i < n := by simpa using hrange
    have hword : (l.drop 6).getD (i / 4) 0#32 = payloadWord l (7 + i / 4) := by
      rw [payloadWord, show 7 + i / 4 - 1 = 6 + i / 4 by omega]
      simp [List.getD_eq_getElem?_getD]
    have hblock := getD_flatMap_blocks (f := wordBytes) (k := 4) (fun _ => rfl) (l := l.drop 6) 0#32 0#8
      (i := i / 4) (j := i % 4) (by omega) (by omega)
    rw [Nat.div_add_mod, hword, wordBytes_getD _ (by omega), List.getD_eq_getElem _ _ (by omega)] at hblock
    simpa [labelBytes, putChar] using hblock

theorem labelChar_putChar : labelChar (BitVec.ofNat 8 (putChar l i)) = true ↔
    0x20 ≤ putChar l i ∧ putChar l i ≤ 0x7E := by
  have hbyte : (BitVec.ofNat 8 (putChar l i)).toNat = putChar l i :=
    Nat.mod_eq_of_lt (Nat.mod_lt _ (by decide))
  rw [labelChar, hbyte, Bool.and_eq_true, decide_eq_true_iff, decide_eq_true_iff]

theorem putLabel_bad (hi : i < putLength l) (hbad : ¬(0x20 ≤ putChar l i ∧ putChar l i ≤ 0x7E))
    (hearlier : ∀ j, j < i → 0x20 ≤ putChar l j ∧ putChar l j ≤ 0x7E) :
    (putLabel l).findIdx? (fun b => !labelChar b) = some i := by
  refine List.findIdx?_eq_some_iff_getElem.mpr ⟨by simpa [putLabel] using hi, ?_, fun j hj => ?_⟩
  · simpa [putLabel] using Bool.eq_false_iff.mpr (mt labelChar_putChar.mp hbad)
  · simpa [putLabel] using labelChar_putChar.mpr (hearlier j hj)

theorem putLabel_good (h : ∀ i, i < putLength l → 0x20 ≤ putChar l i ∧ putChar l i ≤ 0x7E) :
    (putLabel l).findIdx? (fun b => !labelChar b) = none := by
  refine List.findIdx?_eq_none_iff.mpr fun b hb => ?_
  obtain ⟨i, hi, rfl⟩ := List.mem_map.mp hb
  rw [labelChar_putChar.mpr (h i (List.mem_range.mp hi))]
  rfl

end

/-! ### The seven checks (R138) -/

section

variable {l : List Word}

/-- The first five checks: the id, the class, the mask, the label length and the payload length (R138). -/
structure PutShaped (l : List Word) : Prop where
  id : 1 ≤ (payloadWord l 1).toNat ∧ (payloadWord l 1).toNat ≤ 65535
  trackClass : (payloadWord l 4).toNat ≤ 7
  mask : payloadWord l 5 = Word.absent ∨ (payloadWord l 5).toNat ≤ 255
  label : putLength l ≤ 16
  length : l.length = 6 + (putLength l + 3) / 4

/-- The entry that a SECTION_PUT asks for (R138). -/
def putEntry (l : List Word) : SectionEntry where
  id := (payloadWord l 1).toNat
  start := (payloadWord l 2).toInt
  stop := (payloadWord l 3).toInt
  trackClass := Fin.ofNat 8 (payloadWord l 4).toNat
  mask := if payloadWord l 5 = Word.absent then none else some ((payloadWord l 5).setWidth 8)
  label := if payloadWord l 6 = Word.absent then none else some (putLabel l)

theorem maskTest_iff {w : Word} : w ≠ Word.absent ∧ 256 ≤ w.toNat ↔ ¬(w = Word.absent ∨ w.toNat ≤ 255) := by
  rw [not_or, Nat.not_le]; exact Iff.rfl

theorem labelTest_iff : payloadWord l 6 ≠ Word.absent ∧ 16 < (payloadWord l 6).toNat ↔ ¬putLength l ≤ 16 := by
  unfold putLength
  split
  · next h => simp [h]
  · next h => simp [h]

/-- A check that passes leaves the rest of the chain. -/
theorem ite_not_trans {α : Type} {c : Prop} [Decidable c] {x y z : α} (hc : c) (h : y = z) :
    (if ¬c then x else y) = z :=
  (if_neg (not_not_intro hc)).trans h

/-- The first five checks in their order, and what the payload gives when it passes them. -/
theorem parseSection_shape (l : List Word) : parseSection l =
    if ¬(1 ≤ (payloadWord l 1).toNat ∧ (payloadWord l 1).toNat ≤ 65535) then .error (.range, 1)
    else if ¬(payloadWord l 4).toNat ≤ 7 then .error (.range, 4)
    else if ¬(payloadWord l 5 = Word.absent ∨ (payloadWord l 5).toNat ≤ 255) then .error (.range, 5)
    else if ¬putLength l ≤ 16 then .error (.range, 6)
    else if ¬l.length = 6 + (putLength l + 3) / 4 then .error (.badPayload, 0)
    else ((putLabel l).findIdx? (fun b => !labelChar b)).elim
      (if ¬(putEntry l).start < (putEntry l).stop then .error (.range, 3) else .ok (putEntry l))
      fun i => .error (.range, 7 + i / 4) := by
  refine ite_congr rfl (fun _ => rfl) fun _ => ite_congr (propext Nat.not_le.symm) (fun _ => rfl) fun _ =>
    ite_congr (propext maskTest_iff) (fun _ => rfl) fun _ => ite_congr (propext labelTest_iff) (fun _ => rfl) fun _ =>
    ite_congr rfl (fun _ => rfl) fun hlength => ?_
  have hlabel : labelBytes l (putLength l) = putLabel l := labelBytes_eq (not_not.mp hlength)
  rw [putEntry, ← hlabel, putLength]
  generalize List.findIdx? _ (labelBytes l _) = bad
  cases bad <;> rfl

/-- A payload of the right shape: the characters of its label, then its range. -/
theorem PutShaped.parse_eq (h : PutShaped l) : parseSection l =
    ((putLabel l).findIdx? (fun b => !labelChar b)).elim
      (if ¬(putEntry l).start < (putEntry l).stop then .error (.range, 3) else .ok (putEntry l))
      fun i => .error (.range, 7 + i / 4) :=
  (parseSection_shape l).trans (ite_not_trans h.id (ite_not_trans h.trackClass (ite_not_trans h.mask
    (ite_not_trans h.label (ite_not_trans h.length rfl)))))

end

/-! ### The tests of an entry (R139, R140) -/

section

variable {e : SectionEntry} {s : State}

/-- The range overlaps that of an entry of another id (R139). -/
def SectionEntry.Meets (e : SectionEntry) (s : State) : Prop :=
  ∃ x ∈ removeSection e.id s.cls.sections, e.start < x.stop ∧ x.start < e.stop

/-- The entry is a new one, and the table is full (R139). -/
def SectionEntry.HasNoPlace (e : SectionEntry) (s : State) : Prop :=
  (¬∃ x ∈ s.cls.sections, x.id = e.id) ∧ 128 ≤ s.cls.sections.length

/-- The entry, or the one of its id that it replaces, is not wholly beyond the horizon (R139, R140). -/
def SectionEntry.TooClose (e : SectionEntry) (s : State) : Prop :=
  s.Near e.start e.stop ∨ ∃ x, findSection e.id s.cls.sections = some x ∧ s.Near x.start x.stop

theorem meets_iff : (removeSection e.id s.cls.sections).any e.overlaps = true ↔ e.Meets s := by
  simp [SectionEntry.Meets, SectionEntry.overlaps]

theorem hasNoPlace_iff : (findSection e.id s.cls.sections).isNone = true ∧ sectionCapacity ≤ s.cls.sections.length ↔
    e.HasNoPlace s := by
  rw [← Option.not_isSome, Bool.not_eq_true', Bool.eq_false_iff, Ne, findSection_isSome]
  exact Iff.rfl

theorem putRefusal_of_meets (h : e.Meets s) : putRefusal e s = some .overlap := if_pos (meets_iff.mpr h)

theorem putRefusal_of_hasNoPlace (hmeets : ¬e.Meets s) (h : e.HasNoPlace s) : putRefusal e s = some .tableFull :=
  (if_neg (mt meets_iff.mp hmeets)).trans (if_pos (hasNoPlace_iff.mpr h))

/-- An entry that has a place: the horizon decides. -/
theorem putRefusal_of_place (hmeets : ¬e.Meets s) (hplace : ¬e.HasNoPlace s) :
    (e.TooClose s → putRefusal e s = some .tooClose) ∧ (¬e.TooClose s → putRefusal e s = none) := by
  unfold putRefusal SectionEntry.TooClose
  dsimp only
  rw [if_neg (mt meets_iff.mp hmeets), if_neg (mt hasNoPlace_iff.mp hplace)]
  by_cases hnew : s.Near e.start e.stop
  · have hclose : s.clearOfHorizon e.start e.stop = false := by
      rw [Bool.eq_false_iff, Ne, clearOfHorizon_iff]; exact not_not_intro hnew
    simp [hnew, hclose]
  · have hclear : s.clearOfHorizon e.start e.stop = true := clearOfHorizon_iff.mpr hnew
    cases findSection e.id s.cls.sections with
    | none => simp [hnew, hclear]
    | some x =>
      have hold : s.clearOfHorizon x.start x.stop = true ↔ ¬s.Near x.start x.stop := clearOfHorizon_iff
      by_cases hx : s.Near x.start x.stop <;> simp [hnew, hclear, hold, hx]

/-! ### The place of an entry (R135, R139) -/

/-- A put entry stands behind the entries that do not start after it. -/
theorem insertSection_place (e : SectionEntry) (l : List SectionEntry) : ∃ front back, front ++ back = l ∧
    insertSection e l = front ++ e :: back ∧ (∀ x ∈ front, x.start ≤ e.start) ∧
    ∀ x ∈ back.head?, e.start < x.start := by
  induction l with
  | nil => exact ⟨[], [], rfl, rfl, by simp, by simp⟩
  | cons y l ih =>
    by_cases hlt : e.start < y.start
    · exact ⟨[], y :: l, rfl, if_pos hlt, by simp, by simpa using hlt⟩
    · obtain ⟨front, back, hl, hinsert, hfront, hback⟩ := ih
      refine ⟨y :: front, back, congrArg _ hl, (if_neg hlt).trans (congrArg _ hinsert), ?_, hback⟩
      exact List.forall_mem_cons.mpr ⟨Int.not_lt.mp hlt, hfront⟩

theorem sectionPosition_of_new {front back : List SectionEntry} (h : ∀ x ∈ front, x.id ≠ e.id) :
    sectionPosition e.id (front ++ e :: back) = front.length := by
  induction front with
  | nil => simp [sectionPosition, List.findIdx_cons]
  | cons y front ih =>
    obtain ⟨hy, hfront⟩ := List.forall_mem_cons.mp h
    have hrest := ih hfront
    rw [sectionPosition] at hrest ⊢
    rw [List.cons_append, List.findIdx_cons, hrest]
    simp [hy]

/-- What a put leaves: the entries of other ids, the new one among them at its place in start order, and that place. -/
theorem putSection_place (e : SectionEntry) (l : List SectionEntry) : ∃ front back,
    front ++ back = removeSection e.id l ∧ (∀ x ∈ front, x.start ≤ e.start) ∧ (∀ x ∈ back.head?, e.start < x.start) ∧
    putSection e l = front ++ e :: back ∧ (putSection e l).length = (removeSection e.id l).length + 1 ∧
    sectionPosition e.id (putSection e l) = front.length := by
  obtain ⟨front, back, hothers, hput, hfront, hback⟩ := insertSection_place e (removeSection e.id l)
  have hnew : ∀ x ∈ front, x.id ≠ e.id := fun x hx => by
    have hx : x ∈ removeSection e.id l := hothers ▸ List.mem_append_left back hx
    exact of_decide_eq_true (List.mem_filter.mp hx).2
  refine ⟨front, back, hothers, hfront, hback, hput, ?_, ?_⟩
  · rw [putSection, hput, ← hothers, List.length_append, List.length_append]; rfl
  · rw [putSection, hput, sectionPosition_of_new hnew]

end

/-! ### The request (R138, R139) -/

section

variable {p : PortId} {r : Request} {rest : List Request} {s : State}

theorem Serves.sectionPut_runs (h : Serves .sectionPut p r rest s) (hmin : 6 ≤ r.payload.length)
    (hmax : r.payload.length ≤ 10) (hh : s.svc.holder = some p) :
    exec (.sectionPut p) s = .next (sectionPutBody p r (s.setPort p ((s.port p).taken rest))) :=
  congrArg Host.Outcome.next (h.holder_runs (ok := fun n => decide (6 ≤ n) && decide (n ≤ 10))
    (by simp [hmin, hmax]) hh (sectionPutBody p))

theorem Serves.sectionPut_malformed (h : Serves .sectionPut p r rest s) {why : Reason} {n : Nat}
    (hparse : parseSection r.payload = .error (why, n)) :
    sectionPutBody p r (s.setPort p ((s.port p).taken rest)) = s.answered p rest (refusal r why n) := by
  rw [← h.refuse_taken, sectionPutBody, hparse]

theorem Serves.sectionPut_refused (h : Serves .sectionPut p r rest s) {e : SectionEntry} {why : Reason}
    (hparse : parseSection r.payload = .ok e) (hwhy : putRefusal e s = some why) :
    sectionPutBody p r (s.setPort p ((s.port p).taken rest)) = s.answered p rest (refusal r why 0) := by
  have htaken : putRefusal e (s.setPort p ((s.port p).taken rest)) = putRefusal e s := rfl
  rw [← h.refuse_taken, sectionPutBody, hparse]
  dsimp only
  rw [htaken, hwhy]

theorem Serves.sectionPut_done (h : Serves .sectionPut p r rest s) {e : SectionEntry}
    (hparse : parseSection r.payload = .ok e) (hok : putRefusal e s = none) :
    let l := putSection e s.cls.sections
    sectionPutBody p r (s.setPort p ((s.port p).taken rest)) = (s.withCls (s.cls.edited l)).answered p rest
      (answerTo r [wordOfBool (findSection e.id s.cls.sections).isSome, wordOfNat l.length,
        wordOfNat (sectionPosition e.id l)]) := by
  intro l
  have htaken : putRefusal e (s.setPort p ((s.port p).taken rest)) = putRefusal e s := rfl
  rw [← h.reply_withCls, sectionPutBody, hparse]
  dsimp only
  rw [htaken, hok]
  rfl

end

/-! ### The statement -/

/-- Settles O47: the payload by `parseSection_shape`, the entry by the tests of `putRefusal`, its place by
`insertSection_place`. -/
theorem sectionPutInsertsOrReplaces : Obligations.SectionPutInsertsOrReplaces := by
  intro p r rest s h hmin hmax hh word id n char printable okId okClass okMask okLabel okLength okRange refused
  have hbad {why : Reason} {field : Nat} (hparse : parseSection r.payload = .error (why, field)) : refused why field :=
    (h.sectionPut_runs hmin hmax hh).trans (congrArg _ (h.sectionPut_malformed hparse))
  have hshape := parseSection_shape r.payload
  refine ⟨fun hid => ?_, fun hid hclass => ?_, fun hid hclass hmask => ?_, fun hid hclass hmask hlabel => ?_,
    fun hid hclass hmask hlabel hlength => ?_, fun i hid hclass hmask hlabel hlength hi hchar hearlier => ?_,
    fun hid hclass hmask hlabel hlength hchars hrange => ?_,
    fun hid hclass hmask hlabel hlength hchars hrange => ?_, fun e hparse => ?_⟩
  · exact hbad (hshape.trans (if_pos hid))
  · exact hbad (hshape.trans (ite_not_trans hid (if_pos hclass)))
  · exact hbad (hshape.trans (ite_not_trans hid (ite_not_trans hclass (if_pos hmask))))
  · exact hbad (hshape.trans (ite_not_trans hid (ite_not_trans hclass (ite_not_trans hmask (if_pos hlabel)))))
  · exact hbad (hshape.trans (ite_not_trans hid (ite_not_trans hclass (ite_not_trans hmask
      (ite_not_trans hlabel (if_pos hlength))))))
  · have hshaped : PutShaped r.payload := ⟨hid, hclass, hmask, hlabel, hlength⟩
    exact hbad (by rw [hshaped.parse_eq, putLabel_bad hi hchar hearlier]; rfl)
  · have hshaped : PutShaped r.payload := ⟨hid, hclass, hmask, hlabel, hlength⟩
    exact hbad (by rw [hshaped.parse_eq, putLabel_good hchars]; exact if_pos hrange)
  · have hshaped : PutShaped r.payload := ⟨hid, hclass, hmask, hlabel, hlength⟩
    refine ⟨putEntry r.payload, ?_, rfl, rfl, rfl, Nat.mod_eq_of_lt (Nat.lt_succ_of_le hclass), rfl, rfl⟩
    rw [hshaped.parse_eq, putLabel_good hchars]
    exact if_neg (not_not_intro hrange)
  · intro others overlaps held full close tooClose
    rw [h.sectionPut_runs hmin hmax hh]
    refine ⟨fun hmeets => ?_, fun hmeets hfull => ?_, fun hmeets hfull hclose => ?_, fun hmeets hfull hclose => ?_⟩
    · rw [h.sectionPut_refused hparse (putRefusal_of_meets hmeets)]
    · rw [h.sectionPut_refused hparse (putRefusal_of_hasNoPlace hmeets hfull)]
    · rw [h.sectionPut_refused hparse ((putRefusal_of_place hmeets hfull).1 hclose)]
    · obtain ⟨front, back, hothers, hfront, hback, hput, hlength, hplace⟩ := putSection_place e s.cls.sections
      refine ⟨front, back, hothers, hfront, hback, wordOfBool (findSection e.id s.cls.sections).isSome,
        fun hheld => by rw [findSection_isSome.mpr hheld]; rfl,
        fun hfree => by rw [Bool.eq_false_iff.mpr (mt findSection_isSome.mp hfree)]; rfl, ?_⟩
      rw [h.sectionPut_done hparse ((putRefusal_of_place hmeets hfull).2 hclose), hlength, hplace, hput]
      rfl

end Sys2Proof.Machine
end

section
/-!
PROOFS. Every operation of EXM keeps the exceedance list, its open records and the URGENT line consistent (R154 to R166,
R171), from the judgement of one parameter to that of a point.
-/

namespace Sys2Proof.Machine

/-! ### EXM at reset, and its counters (R174) -/

theorem exmInv_reset : ExmInv Exm.reset := by
  have hgroups (p : Param) : (Exm.reset.groups.get p).current = none := by cases p <;> rfl
  refine ⟨Nat.zero_le _, .nil, ?_, ?_, by simp [Exm.reset], fun p g hg => ?_, ?_⟩
  · exact fun r hr => absurd hr List.not_mem_nil
  · exact fun r hr => absurd hr List.not_mem_nil
  · exact nomatch (hgroups p).symm.trans hg
  · exact fun r hr => absurd hr List.not_mem_nil

/-- The counters of EXM are none of its invariant. -/
theorem ExmInv.recount {e f : Exm} (h : ExmInv e) (hr : f.records = e.records := by rfl)
    (hn : f.nextId = e.nextId := by rfl) (hg : f.groups = e.groups := by rfl) (hu : f.urgent = e.urgent := by rfl) :
    ExmInv f :=
  ⟨hr ▸ h.capacity, hr ▸ h.ordered, hr ▸ hn ▸ h.below, hr ▸ h.ok, hr ▸ hu ▸ h.urgent, hr ▸ hg ▸ h.held,
    hr ▸ hg ▸ h.opened⟩

/-! ### A record closes (R155) -/

section

variable {p : Param} {s : State}

theorem closeRecord_of_none (ho : (s.exm.groups.get p).current = none) (why : CloseReason) (i : Nat) (c : Int) :
    closeRecord p why i c s = s := by
  unfold closeRecord; simp only [ho]

theorem closeRecord_inv (h : ExmInv s.exm) (why : CloseReason) (i : Nat) (c : Int) :
    ExmInv (closeRecord p why i c s).exm := by
  cases ho : (s.exm.groups.get p).current with
  | none => rw [closeRecord_of_none ho]; exact h
  | some o => exact (closeRecord_closes h ho why i c).keeps_inv h ho

theorem closeAtLast_inv (h : ExmInv s.exm) (why : CloseReason) : ExmInv (closeAtLast p why s).exm := by
  cases ho : (s.exm.groups.get p).current with
  | none => rw [closeAtLast_of_none ho]; exact h
  | some o => exact (closeAtLast_of_open h ho why).keeps_inv h ho

end

/-! ### A record opens (R156, R163, R164) -/

/-- The list in which a new record finds its place: the list before, or that list without one closed record (R163). -/
theorem placeFor_spec {l l' : List ExcRecord} {evicted : Bool} (hl : l.length ≤ recordCapacity)
    (h : placeFor l = some (l', evicted)) :
    l'.Sublist l ∧ l'.length < recordCapacity ∧ ∀ r ∈ l, r.closing = none → r ∈ l' := by
  rw [placeFor_eq] at h
  split at h
  · next hroom => cases h; exact ⟨.refl l, hroom, fun r hr _ => hr⟩
  · split at h
    · next hany =>
      cases h
      refine ⟨List.eraseP_sublist, ?_, fun r hr hopen => (List.mem_eraseP_of_neg ?_).mpr hr⟩
      · have hlength := List.length_eraseP (l := l) (p := (·.evictable))
        have hpos : 0 < recordCapacity := by decide
        rw [if_pos hany] at hlength
        omega
      · exact fun he => (evictable_iff.mp he).1 hopen
    · cases h

section

variable {e : Exm} {p : Param} {level : Nat} {side : Side} {value : Int} {place : PointPlace}

theorem opened_ok (hmin : 1 ≤ level) (hmax : level ≤ 3) : (e.opened p level side value place).Ok := by
  refine ⟨hmin, hmax, ?_⟩
  show (if level = 3 then UrgentState.unacked else .notUrgent) ≠ .notUrgent ↔ level = 3
  split <;> simp [*]

/-- A parameter without an open record opens one at the end of the list. -/
theorem ExmInv.withOpened {l : List ExcRecord} {evicted : Bool} (h : ExmInv e)
    (hp : (e.groups.get p).current = none) (hmin : 1 ≤ level) (hmax : level ≤ 3)
    (hplace : placeFor e.records = some (l, evicted)) :
    ExmInv (e.withOpened p level side value place l evicted) := by
  obtain ⟨hsub, hroom, hstay⟩ := placeFor_spec h.capacity hplace
  have hnew : e.opened p level side value place ∈ l ++ [e.opened p level side value place] :=
    List.mem_append_right _ (List.mem_singleton_self _)
  refine ⟨?_, ?_, fun r hr => ?_, fun r hr => ?_, ?_, fun q g hg => ?_, ?_⟩
  · show (l ++ [_]).length ≤ recordCapacity
    rw [List.length_append, List.length_singleton]; omega
  · refine List.pairwise_append.mpr ⟨h.ordered.sublist hsub, List.pairwise_singleton _ _, fun a ha b hb => ?_⟩
    rw [List.mem_singleton.mp hb]
    exact h.below a (hsub.subset ha)
  · show r.id < e.nextId + 1
    rcases List.mem_append.mp hr with hr | hr
    · exact Nat.lt_succ_of_lt (h.below r (hsub.subset hr))
    · rw [List.mem_singleton.mp hr]; exact Nat.lt_succ_self _
  · rcases List.mem_append.mp hr with hr | hr
    · exact h.ok r (hsub.subset hr)
    · rw [List.mem_singleton.mp hr]; exact opened_ok hmin hmax
  · simp [Exm.withOpened, Exm.withRecords]
  · simp only [Exm.withOpened, PerParam.get_set_ite] at hg
    split at hg
    · next hq => cases hg; exact ⟨_, hnew, rfl, hq.symm, rfl, rfl⟩
    · obtain ⟨r, hr, hid, hparam, hside, hopen⟩ := h.held q g hg
      exact ⟨r, List.mem_append_left _ (hstay r hr hopen), hid, hparam, hside, hopen⟩
  · exact OpenTracked.append h.opened (fun r hr => hsub.subset hr) hp rfl rfl rfl

theorem openRecord_inv {s : State} (h : ExmInv s.exm) (hp : (s.exm.groups.get p).current = none) (hmin : 1 ≤ level)
    (hmax : level ≤ 3) : ExmInv (openRecord p level side value place s).exm := by
  by_cases hplace : s.exm.HasPlace
  · obtain ⟨l, evicted, hl⟩ := placeFor_of_hasPlace hplace
    have k : ExmInv (s.exm.withOpened p level side value place l evicted) := h.withOpened hp hmin hmax hl
    rw [openRecord_of_place hl]
    split
    · exact k.recount
    · exact k
  · rw [openRecord_of_no_place hplace]
    exact h.recount

/-! ### A record is extended or bridged (R157 to R159) -/

theorem extendRecord_inv {x : OpenGroup} {s : State} (h : ExmInv s.exm)
    (hx : (s.exm.groups.get p).current = some x) (hmax : level ≤ 3) :
    ExmInv (extendRecord p x level value place s).exm := by
  obtain ⟨r, hr, hid, -⟩ := h.find_open hx
  have k : ExmInv (s.extended p x r level value place).exm := by
    rw [State.extended_exm]; exact withExtended_inv h hx hr hid hmax
  rw [extendRecord_eq h hr hid hmax]
  split
  · exact closeRecord_inv k _ _ _
  · exact k

theorem bridge_of_none {s : State} (hx : (s.exm.groups.get p).current = none) : bridge p s = s := by
  unfold bridge; simp only [hx]

theorem bridge_inv {s : State} (h : ExmInv s.exm) : ExmInv (bridge p s).exm := by
  cases hx : (s.exm.groups.get p).current with
  | none => rw [bridge_of_none hx]; exact h
  | some x =>
    have k : ExmInv (setGroup p { s.exm.groups.get p with clean := (s.exm.groups.get p).clean + 1 } s).exm :=
      h.regroup rfl
    rw [bridge_of_open hx]; dsimp only
    split
    · exact closeAtLast_inv k .below
    · exact k

/-! ### The outcome of a parameter (R144, R151) -/

/-- The level of a value is 1 to 3 (R144). -/
theorem judge_level {l : Limits} {v : Int} (h : l.judge v = some (level, side)) : 1 ≤ level ∧ level ≤ 3 := by
  cases side with
  | high =>
    obtain ⟨hpos, rfl⟩ := judge_high_iff.mp h
    exact ⟨hpos, (exceeds_levelOf hpos).2.1⟩
  | low =>
    obtain ⟨hpos, rfl⟩ := judge_low_iff.mp h
    exact ⟨hpos, (exceeds_levelOf hpos).2.1⟩

theorem outcomeOf_exceeds {limits : PerParam Limits} {mask : BitVec 8} {x : PointRec}
    (h : outcomeOf limits mask x p = .exceeds level side) : 1 ≤ level ∧ level ≤ 3 := by
  unfold outcomeOf at h
  split at h
  · cases h
  · split at h
    · cases h
    · split at h
      · next hjudge => cases h; exact judge_level hjudge
      · cases h

theorem applyOutcome_inv {o : ParamOutcome} {s : State} (h : ExmInv s.exm)
    (ho : ∀ level side, o = .exceeds level side → 1 ≤ level ∧ level ≤ 3) :
    ExmInv (applyOutcome p o value place s).exm := by
  cases o with
  | suppressed => exact closeAtLast_inv h _
  | void => exact closeAtLast_inv h _
  | within => exact bridge_inv h
  | exceeds level side =>
    obtain ⟨hmin, hmax⟩ := ho level side rfl
    cases hx : (s.exm.groups.get p).current with
    | none => rw [applyOutcome_opens hx]; exact openRecord_inv h hx hmin hmax
    | some x =>
      by_cases hside : x.side = side
      · rw [applyOutcome_extends hx hside]; exact extendRecord_inv h hx hmax
      · have hnone : ((closeAtLast p .side s).exm.groups.get p).current = none := by
          rw [closeAtLast_current, if_pos rfl]
        rw [applyOutcome_turns hx hside]
        exact openRecord_inv (closeAtLast_inv h _) hnone hmin hmax

end

/-! ### An acknowledgement (R166) -/

/-- An UNACKED record of the list becomes ACKED. -/
theorem acknowledge_inv {r : ExcRecord} {s : State} (h : ExmInv s.exm) (hr : r ∈ s.exm.records)
    (hu : r.urgency = .unacked) (p : PortId) : ExmInv (acknowledge p r s).exm := by
  have hlevel : r.level = 3 := (h.ok r hr).urgent.mp (by rw [hu]; decide)
  have hok : ({ r with urgency := .acked } : ExcRecord).Ok :=
    ⟨(h.ok r hr).minLevel, (h.ok r hr).maxLevel, iff_of_true (by simp) hlevel⟩
  exact (h.withRecord (f := fun x => { x with urgency := .acked }) hr hok (by exact fun _ => ⟨rfl, rfl, rfl, rfl⟩)
    s.exm.urgentRecords).recount

/-! ### What an event keeps -/

/-- From `s` to `t`, the exceedance list, its open records and the URGENT line stay consistent. -/
def KeepsRecords (s t : State) : Prop := ExmInv s.exm → ExmInv t.exm

section

variable {s t u : State}

theorem KeepsRecords.refl (s : State) : KeepsRecords s s := id

theorem KeepsRecords.trans (h : KeepsRecords s t) (k : KeepsRecords t u) : KeepsRecords s u := k ∘ h

/-- `KeepsRecords.trans` with the later event first, which the goal names. -/
theorem KeepsRecords.after (k : KeepsRecords t u) (h : KeepsRecords s t) : KeepsRecords s u := h.trans k

theorem KeepsRecords.ite {c : Prop} [Decidable c] (ht : KeepsRecords s t) (hu : KeepsRecords s u) :
    KeepsRecords s (if c then t else u) := by split <;> assumption

theorem KeepsRecords.foldl {α : Type} {f : State → α → State} (h : ∀ s x, KeepsRecords s (f s x)) (l : List α)
    (s : State) : KeepsRecords s (l.foldl f s) := by
  induction l generalizing s with
  | nil => exact .refl s
  | cons x l ih => exact (h s x).trans (ih (f s x))

/-- An event that leaves EXM alone. -/
theorem KeepsRecords.of_eq (h : t.exm = s.exm) : KeepsRecords s t := fun k => h ▸ k

/-- An event at which EXM takes its reset values. -/
theorem KeepsRecords.of_reset (h : t.exm = Exm.reset) : KeepsRecords s t := fun _ => h ▸ exmInv_reset

end

/-! ### The judgement of a point (R151 to R153, R171) -/

theorem closeAtLast_records (p : Param) (why : CloseReason) (s : State) : KeepsRecords s (closeAtLast p why s) :=
  fun h => closeAtLast_inv h why

theorem closeAllRunEnd_records (s : State) : KeepsRecords s (closeAllRunEnd s) :=
  .foldl (fun t p => closeAtLast_records p .runEnd t) _ s

theorem judgeLost_records (s : State) : KeepsRecords s (judgeLost s) := fun h =>
  (KeepsRecords.foldl (fun t p => closeAtLast_records p .void t) Param.all s h).recount

theorem grouped_records (x : PointRec) (s : State) : KeepsRecords s (s.grouped x) := by
  have hlookup : KeepsRecords s { s with cls := s.cls.counted x.chainage } := .of_eq rfl
  unfold State.grouped
  exact hlookup.trans (.foldl (fun t p h => applyOutcome_inv h fun _ _ => outcomeOf_exceeds) _ _)

theorem judgeHeld_records (x : PointRec) (s : State) : KeepsRecords s (judgeHeld x s) := fun h => by
  rw [judgeHeld_eq]
  exact (grouped_records x s h).recount

end Sys2Proof.Machine
end

section
/-!
PROOFS. The measurement chain keeps the exceedance list consistent: the streams and GEO leave EXM alone, a completion is
a judgement, and an examination is the completions that it leads to (R46, R61, R81, R83, R180).
-/

namespace Sys2Proof.Machine

/-! ### Streams (R103 to R107) -/

theorem endStream_records (p : PortId) (why : StreamEnd) (s : State) : KeepsRecords s (endStream p why s) :=
  .of_eq (endStream_exm p why s)

theorem endAllStreams_records (why : StreamEnd) (s : State) : KeepsRecords s (endAllStreams why s) :=
  .foldl (fun t p => endStream_records p why t) _ s

theorem streamBuild_records (p : PortId) (s : State) : KeepsRecords s (streamBuild p s) :=
  .of_eq (buildPoints_exm _ p s)

theorem runOverTest_records (p : PortId) (s : State) : KeepsRecords s (runOverTest p s) :=
  .of_eq (by rw [runOverTest_frame])

theorem reportGap_records (p : PortId) (st : Stream) (n : Nat) (s : State) : KeepsRecords s (reportGap p st n s) :=
  .of_eq rfl

theorem gapTest_records (p : PortId) (s : State) : KeepsRecords s (gapTest p s) := by
  have built (st : Stream) (n : Nat) : KeepsRecords s (streamBuild p (reportGap p st n s)) :=
    (streamBuild_records p _).after (reportGap_records p st n s)
  unfold gapTest; split
  · refine .ite ?_ (.refl s)
    split
    · exact .ite ((endStream_records p _ _).after (reportGap_records p _ _ s)) (built _ _)
    · exact built _ _
  · exact .refl s

theorem openSlot_records (x : PointRec) (s : State) : KeepsRecords s (openSlot x s) :=
  (KeepsRecords.foldl (fun t p => gapTest_records p t) _ _).after (.of_eq rfl)

/-! ### Completion (R81, R83) -/

/-- A completion is a judgement; what else it does leaves EXM alone. -/
theorem completePoint_records (j : Nat) (s : State) : KeepsRecords s (completePoint j s) := by
  have advanced (t : State) : KeepsRecords t (t.advancedTo j) := .of_eq (streamBuildAll_exm _)
  cases hx : s.store.point j with
  | none =>
    have lost : KeepsRecords s { s with store := { s.store with overwritten := inc16 s.store.overwritten } } :=
      .of_eq rfl
    rw [completePoint_of_lost hx]
    exact (advanced _).after ((judgeLost_records _).after lost)
  | some x =>
    have readable (t : State) : KeepsRecords t (writePoint j (fun r => { r with readable := true }) t) := .of_eq rfl
    rw [completePoint_of_held hx]
    exact (advanced _).after ((readable _).after (judgeHeld_records x s))

theorem WritesParams.records {s t : State} (h : WritesParams s t) : KeepsRecords s t := by
  obtain ⟨_, _, _, rfl⟩ := h; exact .of_eq rfl

theorem geoRawPoint_records (rp : RawPoint) (s : State) : KeepsRecords s (geoRawPoint rp s) := by
  have written : KeepsRecords s (withVersinesOf rp s.run.settings
      (geoPoint rp (isLowSpeed s.run.settings.vMin s.geo.low rp.speed) (geoClassify rp s))) :=
    ((writeVersines_writes _ _ _ _ _).records.after (writeVersines_writes _ _ _ _ _).records).after
      ((geoPoint_writes rp _ _).records.after (.of_eq rfl))
  rw [geoRawPoint_eq]
  exact .ite written ((completePoint_records _ _).after written)

theorem voidVersines_records (l : List VersineKind) (j m w : Nat) (s : State) :
    KeepsRecords s (voidVersines l j m w s) :=
  .ite (.foldl (fun t _ => (writeParam_writes _ _ _ t).records) l s) (.refl s)

theorem completeTail_records (w j : Nat) (s : State) : KeepsRecords s (completeTail w j s) := by
  have flagged (t : State) : KeepsRecords t (writePoint j (fun r => { r with tail := true }) t) := .of_eq rfl
  exact (completePoint_records _ _).after ((flagged _).after ((voidVersines_records _ _ _ _ _).after
    (voidVersines_records _ _ _ _ s)))

theorem completeTailAll_records (s : State) : KeepsRecords s (completeTailAll s) := by
  have done (t : State) : KeepsRecords t { t with geo := { t.geo with tailDone := true } } := .of_eq rfl
  refine (done _).after ?_
  split
  · exact .foldl (fun t i => completeTail_records _ _ t) _ s
  · exact .refl s

/-! ### The end of a run, and an examination (R46, R56, R180) -/

theorem closing_records (s : State) : KeepsRecords s s.closing := by
  have reported : KeepsRecords s s.tailing := .of_eq rfl
  have staged (t : State) : KeepsRecords t (setStage .closing t) := .of_eq rfl
  exact (closeAllRunEnd_records _).after ((staged _).after ((completeTailAll_records _).after reported))

theorem finishRun_records (s : State) : KeepsRecords s (finishRun s) := by
  have idle (t : State) : KeepsRecords t (becomeIdle t) := .of_eq (by rw [becomeIdle_frame]; rfl)
  rw [finishRun_eq]
  exact (idle _).after (closing_records s)

theorem finishTest_records (s : State) : KeepsRecords s (finishTest s) := .ite (finishRun_records s) (.refl s)

theorem formPoint_records (c : CreatedPoint) (rest : List CreatedPoint) (s : State) :
    KeepsRecords s (formPoint c rest s) := by
  have handed : KeepsRecords s (s.handedOn c rest) := .of_eq rfl
  exact (geoRawPoint_records _ _).after handed

theorem formWhile_records (n : Nat) (s : State) : KeepsRecords s (formWhile n s) := by
  induction n generalizing s with
  | zero => exact .refl s
  | succ n ih =>
    unfold formWhile; split
    · exact .ite ((ih _).after (formPoint_records _ _ s)) (.refl s)
    · exact .refl s

theorem examine_records (s : State) : KeepsRecords s (examine s) :=
  .ite (.refl s) ((finishTest_records _).after (formWhile_records _ s))

/-- An examination of a part that differs from `s` outside EXM. -/
theorem examine_records_of_eq {s t : State} (h : t.exm = s.exm) : KeepsRecords s (examine t) :=
  (examine_records t).after (.of_eq h)

theorem alignDeadline_records (s : State) : KeepsRecords s (alignDeadline s) := .ite (examine_records s) (.refl s)

theorem awaitPoint_records (c : CreatedPoint) (s : State) : KeepsRecords s (awaitPoint c s) :=
  .ite (examine_records_of_eq rfl) (.of_eq rfl)

/-! ### ODO (R4, R5, R7 to R20) -/

theorem createPoint_records (k crossing speed : Nat) (s : State) : KeepsRecords s (createPoint k crossing speed s) :=
  (awaitPoint_records _ _).after ((openSlot_records _ _).after (.of_eq rfl))

theorem createPoints_records (f : Nat → Nat) (n k : Nat) (s : State) : KeepsRecords s (createPoints f n k s) := by
  induction n generalizing k s with
  | zero => exact .refl s
  | succ n ih => exact (ih _ _).after (createPoint_records _ _ _ s)

theorem backtrackTest_records (sPrev : Int) (s : State) : KeepsRecords s (backtrackTest sPrev s) :=
  .ite (.ite (.of_eq rfl) (.refl s)) (.ite (.of_eq rfl) (.refl s))

theorem sEvent_records (corr : Bool) (stamp : Nat) (step : Int) (s : State) :
    KeepsRecords s (sEvent corr stamp step s) := by
  unfold sEvent; dsimp only
  generalize h1 : backtrackTest _ _ = s1
  have k1 : KeepsRecords s s1 := by subst h1; exact (backtrackTest_records _ _).after (.of_eq rfl)
  exact .ite ((createPoints_records _ _ _ _).after (k1.trans (.of_eq rfl))) (k1.trans (.of_eq rfl))

theorem reportFault_records (s : State) : KeepsRecords s (reportFault s) := .ite (.refl s) (.of_eq rfl)

theorem enterSlide_records (s : State) : KeepsRecords s (enterSlide s) := by
  have told : KeepsRecords s (if s.odo.disagreed.state ≠ s.odo.state then
      odometryNotice 0 { s with odo := s.odo.disagreed } else { s with odo := s.odo.disagreed }) :=
    .ite (.of_eq rfl) (.of_eq rfl)
  exact .ite ((reportFault_records _).after told) told

theorem correctSlide_records (w : Window) (stamp : Nat) (s : State) : KeepsRecords s (correctSlide w stamp s) := by
  have believed (t : State) (o : Odo) : KeepsRecords t { t with odo := o } := .of_eq rfl
  exact .ite ((believed _ _).after (sEvent_records true stamp _ s)) (.refl s)

theorem closeAgreeing_records (s : State) : KeepsRecords s (closeAgreeing s) := .ite (.of_eq rfl) (.of_eq rfl)

theorem windowTest_records (stamp : Nat) (s : State) : KeepsRecords s (windowTest stamp s) := by
  unfold windowTest; split
  · refine .ite (.ite (.of_eq rfl) (.ite ((closeAgreeing_records _).after (.of_eq rfl)) ?_)) (.refl s)
    exact (correctSlide_records _ _ _).after ((enterSlide_records _).after (.of_eq rfl))
  · exact .refl s

theorem takePulse_records (c : Channel) (stamp : Nat) (fwd : Bool) (s : State) :
    KeepsRecords s (takePulse c stamp fwd s) :=
  (windowTest_records _ _).after (.ite ((sEvent_records _ _ _ _).after (.of_eq rfl)) (.of_eq rfl))

theorem pulse_records (c : Channel) (stamp : Nat) (fwd : Bool) (s : State) : KeepsRecords s (pulse c stamp fwd s) :=
  .ite (.refl s) (.ite (.refl s) (takePulse_records c stamp fwd s))

theorem validateEdge_records (l : TachLine) (t : Nat) (s : State) : KeepsRecords s (validateEdge l t s) := by
  unfold validateEdge; dsimp only; split
  · exact .ite ((pulse_records _ _ _ _).after (.of_eq rfl)) (.of_eq rfl)
  · exact .of_eq rfl

theorem takeEdge_records (l : TachLine) (s : State) : KeepsRecords s (takeEdge l s) := by
  unfold takeEdge; dsimp only; split
  · exact .ite (validateEdge_records l _ s) (.refl s)
  · exact .refl s

theorem takeDueEdges_records (s : State) : KeepsRecords s (takeDueEdges s) := by
  refine .foldl (fun t _ => ?_) _ s
  split
  · exact takeEdge_records _ t
  · exact .refl t

theorem rawChange_records (l : TachLine) (level : Bool) (s : State) : KeepsRecords s (rawChange l level s) := by
  have taken : KeepsRecords s
      (if (s.odo.lines.get l).due s.run.settings.glitchUs s.now = true then takeDueEdges s else s) :=
    .ite (takeDueEdges_records s) (.refl s)
  exact .ite taken (taken.trans (.of_eq rfl))

theorem spacingStart_records (s : State) : KeepsRecords s (spacingStart s) := .ite (.of_eq rfl) (.refl s)

theorem spacingEnd_records (s : State) : KeepsRecords s (spacingEnd s) := .ite (.of_eq rfl) (.refl s)

/-! ### POS (R121 to R126) -/

theorem judgeRead_records (ident : Nat) (m d : Int) (t : Nat) (s : State) :
    KeepsRecords s (judgeRead ident m d t s) := by
  have rebased (f : MarkerFields) (e : Int) : KeepsRecords s (rebaseOn f e d t s) := .ite (.of_eq rfl) (.of_eq rfl)
  unfold judgeRead; dsimp only; split
  · exact .ite (.ite (.of_eq rfl) (.of_eq rfl)) (.ite (.of_eq rfl) (.of_eq rfl))
  · exact rebased _ _
  · exact rebased _ _

theorem takeMarkerRead_records (ident stamp : Nat) (d : Int) (s : State) :
    KeepsRecords s (takeMarkerRead ident stamp d s) := by
  unfold takeMarkerRead; dsimp only
  refine .ite (.of_eq rfl) (.ite (.of_eq rfl) ?_)
  split
  · exact .of_eq rfl
  · exact .ite (.of_eq rfl) (judgeRead_records _ _ _ _ s)

/-! ### INTAKE (R24 to R38) -/

theorem tellGrid_records (c : Source) (s : State) : KeepsRecords s (tellGrid c s) := .ite (examine_records s) (.refl s)

theorem refreshLiveness_records (c : Source) (s : State) : KeepsRecords s (refreshLiveness c s) :=
  .ite (.of_eq rfl) (.of_eq rfl)

theorem loseLiveness_records (c : Source) (s : State) : KeepsRecords s (loseLiveness c s) :=
  .ite ((tellGrid_records c _).after (.of_eq rfl)) (.refl s)

theorem staleDeadline_records (c : Source) (s : State) : KeepsRecords s (staleDeadline c s) := by
  unfold staleDeadline; split
  · exact .ite (loseLiveness_records c s) (.refl s)
  · exact .refl s

theorem sensorLinkDown_records (c : Source) (s : State) : KeepsRecords s (sensorLinkDown c s) :=
  (loseLiveness_records c _).after (.of_eq rfl)

theorem stampSample_records (c : Source) (handOn : Nat → State → State) (h : ∀ t s, KeepsRecords s (handOn t s))
    (s : State) : KeepsRecords s (stampSample c handOn s) := by
  unfold stampSample; split
  · exact (h _ _).after (.of_eq rfl)
  · exact .of_eq rfl

theorem queueHead_records (left : Bool) (v : HeadVals) (t : Nat) (s : State) :
    KeepsRecords s (queueHead left v t s) := .ite (.refl s) (examine_records_of_eq rfl)

theorem queueInertial_records (v : InertialVals) (clamp : Bool) (t : Nat) (s : State) :
    KeepsRecords s (queueInertial v clamp t s) := .ite (.refl s) (examine_records_of_eq rfl)

theorem headSample_records (left : Bool) (w : List Word) (s : State) : KeepsRecords s (headSample left w s) :=
  .ite (stampSample_records _ _ (queueHead_records left _) s) (.of_eq rfl)

theorem inertialSample_records (w : List Word) (s : State) : KeepsRecords s (inertialSample w s) :=
  (stampSample_records _ _ (queueInertial_records _ _) _).after (.ite (.of_eq rfl) (.refl s))

theorem markerSample_records (w : List Word) (s : State) : KeepsRecords s (markerSample w s) := by
  refine .ite (.of_eq rfl) (stampSample_records _ _ (fun t x => ?_) s)
  exact (takeMarkerRead_records _ _ _ _).after (.of_eq rfl)

theorem takeSample_records (c : Source) (w : List Word) (s : State) : KeepsRecords s (takeSample c w s) := by
  cases c with
  | headL => exact headSample_records true w s
  | headR => exact headSample_records false w s
  | inertial => exact inertialSample_records w s
  | marker => exact markerSample_records w s

theorem validSensorFrame_records (c : Source) (w : List Word) (s : State) :
    KeepsRecords s (validSensorFrame c w s) := by
  have tracked (t : State) : KeepsRecords t (updateUnit c (·.track (seqField w)) t) := .of_eq rfl
  have taken := (takeSample_records c w _).after ((tracked _).after (refreshLiveness_records c s))
  exact .ite taken ((tellGrid_records c _).after taken)

theorem checkedSensorFrame_records (c : Source) (f : RxFrame) (s : State) :
    KeepsRecords s (checkedSensorFrame c f s) :=
  .ite (.of_eq rfl) (.ite (.of_eq rfl) (validSensorFrame_records c _ s))

theorem sensorFrame_records (c : Source) (bytes : List Byte) (s : State) : KeepsRecords s (sensorFrame c bytes s) := by
  have bad (t : State) : KeepsRecords t (badSensorFrame c t) := .of_eq rfl
  have corrected : KeepsRecords s (if (receive bytes).corrected = true then
      updateUnit c (fun u => { u with correctedHeaders := inc16 u.correctedHeaders }) s else s) :=
    .ite (.of_eq rfl) (.refl s)
  refine .ite ?_ (.refl s)
  dsimp only
  split
  · exact (bad _).after corrected
  · exact (checkedSensorFrame_records c _ _).after corrected

end Sys2Proof.Machine
end

section
/-!
PROOFS. The client ports, the requests and the resets keep the exceedance list consistent, and so does every step: EXM
changes at an acknowledgement, and takes its reset values at a run start and at a reset (R166, R172, R174).
-/

namespace Sys2Proof.Machine

/-! ### The client ports (R192 to R206, R217 to R220) -/

theorem LinksOnly.records {s t : State} (h : LinksOnly s t) : KeepsRecords s t := by
  obtain ⟨_, _, _, _, rfl⟩ := h; exact .of_eq rfl

theorem setPort_records (p : PortId) (q : Port) (s : State) : KeepsRecords s (s.setPort p q) := .of_eq rfl

theorem leaveActive_records (p : PortId) (dest : PortState) (s : State) : KeepsRecords s (leaveActive p dest s) :=
  (leaveActive_links p dest s).1.records

theorem clientLinkDown_records (p : PortId) (s : State) : KeepsRecords s (clientLinkDown p s) :=
  (setPort_records p _ _).after (.ite (leaveActive_records p _ s) (.refl s))

theorem badClientFrame_records (p : PortId) (why : BadCause) (s : State) : KeepsRecords s (badClientFrame p why s) :=
  .ite (.ite ((setPort_records p _ _).after ((leaveActive_records p _ _).after (setPort_records p _ s)))
    (setPort_records p _ s)) (setPort_records p _ s)

theorem clientFrame_records (p : PortId) (bytes : List Byte) (s : State) : KeepsRecords s (clientFrame p bytes s) := by
  have corrected : KeepsRecords s (if (receive bytes).corrected = true then s.setPort p (s.port p).corrected else s) :=
    .ite (setPort_records p _ s) (.refl s)
  refine .ite (.refl s) ?_
  dsimp only
  split
  · exact (badClientFrame_records p _ _).after corrected
  · exact (setPort_records p _ _).after corrected

theorem transmitStart_records (p : PortId) (s : State) : KeepsRecords s (transmitStart p s) := by
  refine .ite ?_ (.refl s)
  split
  · exact setPort_records p _ s
  · split
    · exact (streamBuild_records p _).after (setPort_records p _ s)
    · exact .refl s

/-! ### Requests (R203, R211) -/

theorem reply_records (p : PortId) (tag : Byte) (w : List Word) (s : State) : KeepsRecords s (reply p tag w s) :=
  .of_eq rfl

theorem refuse_records (p : PortId) (k tag : Byte) (why : Reason) (n : Nat) (s : State) :
    KeepsRecords s (refuse p k tag why n s) := .of_eq rfl

theorem serveWhen_records (isKind : Byte → Bool) (p : PortId) (body : Request → State → State)
    (h : ∀ r t, KeepsRecords t (body r t)) (s : State) : KeepsRecords s (serveWhen isKind p body s) := by
  rcases serveWhen_cases isKind p body s with e | ⟨r, rest, -, -, -, -, e⟩
  · rw [e]; exact .refl s
  · rw [e]; exact (h r _).after (setPort_records p _ s)

theorem serveKind_records (k : RequestKind) (ok : Nat → Bool) (p : PortId) (body : Request → State → State)
    (h : ∀ r t, KeepsRecords t (body r t)) (s : State) : KeepsRecords s (serveKind k ok p body s) :=
  serveWhen_records _ p _ (fun r t => .ite (h r t) (refuse_records _ _ _ _ _ t)) s

theorem serveHolder_records (k : RequestKind) (ok : Nat → Bool) (p : PortId) (body : Request → State → State)
    (h : ∀ r t, KeepsRecords t (body r t)) (s : State) : KeepsRecords s (serveHolder k ok p body s) :=
  serveKind_records k ok p _ (fun r t => .ite (h r t) (refuse_records _ _ _ _ _ t)) s

section Bodies

variable (p : PortId) (r : Request) (s : State)

theorem setLinkBody_records : KeepsRecords s (setLinkBody p r s) := by
  unfold setLinkBody; split
  · exact refuse_records _ _ _ _ _ s
  · exact .ite ((streamBuild_records p _).after (.of_eq rfl)) (.of_eq rfl)

theorem readStatusBody_records : KeepsRecords s (readStatusBody p r s) :=
  .ite (refuse_records _ _ _ _ _ s) (.ite (.of_eq rfl) (.of_eq rfl))

theorem readTableBody_records : KeepsRecords s (readTableBody p r s) := by
  unfold readTableBody; dsimp only
  split
  · exact reply_records _ _ _ s
  · exact .ite (refuse_records _ _ _ _ _ s) (reply_records _ _ _ s)
  · exact reply_records _ _ _ s
  · exact reply_records _ _ _ s
  · exact refuse_records _ _ _ _ _ s

theorem readPointsBody_records : KeepsRecords s (readPointsBody p r s) := by
  refine .ite (refuse_records _ _ _ _ _ s) ?_
  split
  · exact refuse_records _ _ _ _ _ s
  · exact .ite (refuse_records _ _ _ _ _ s) (.ite (refuse_records _ _ _ _ _ s) (reply_records _ _ _ s))

theorem streamPointsBody_records : KeepsRecords s (streamPointsBody p r s) := by
  refine .ite (refuse_records _ _ _ _ _ s) ((streamBuild_records p _).after ((runOverTest_records p _).after
    ((gapTest_records p _).after ((reply_records _ _ _ _).after (KeepsRecords.after (.of_eq rfl) ?_)))))
  exact endStream_records p .replaced s

theorem stopStreamBody_records : KeepsRecords s (stopStreamBody p r s) :=
  .ite ((reply_records _ _ _ _).after (endStream_records p _ s)) (reply_records _ _ _ s)

/-- An ACK_URGENT changes the record that it finds, where that is UNACKED (R166). -/
theorem ackUrgentBody_records : KeepsRecords s (ackUrgentBody p r s) := by
  unfold ackUrgentBody; dsimp only
  split
  · exact refuse_records _ _ _ _ _ s
  · next x hx =>
    split
    · next hu =>
      exact (reply_records _ _ _ _).after fun h => acknowledge_inv h (List.mem_of_find?_eq_some hx) hu p
    · exact reply_records _ _ _ s
    · exact reply_records _ _ _ s

theorem claimBody_records : KeepsRecords s (claimBody p r s) := by
  unfold claimBody; dsimp only
  split
  · exact .of_eq rfl
  · refine .ite (reply_records _ _ _ s) ?_
    split
    · exact refuse_records _ _ _ _ _ s
    · exact .of_eq rfl

theorem passTo_records (q : PortId) (cause : AuthCause) : KeepsRecords s (passTo q cause s) :=
  (passTo_links q cause s).1.records

theorem yieldBody_records : KeepsRecords s (yieldBody p r s) := by
  refine .ite (refuse_records _ _ _ _ _ s) ?_
  split
  · exact refuse_records _ _ _ _ _ s
  · exact (reply_records _ _ _ _).after (passTo_records s _ _)

theorem refuseClaim_records (q : PortId) (why : Reason) : KeepsRecords s (refuseClaim q why s) := by
  unfold refuseClaim answerClaim; split
  · exact .of_eq rfl
  · exact .refl s

theorem keepBody_records : KeepsRecords s (keepBody p r s) := by
  refine .ite (refuse_records _ _ _ _ _ s) ?_
  split
  · exact refuse_records _ _ _ _ _ s
  · exact (reply_records _ _ _ _).after ((refuseClaim_records _ _ _).after (.of_eq rfl))

theorem releaseBody_records : KeepsRecords s (releaseBody p r s) := by
  refine .ite (refuse_records _ _ _ _ _ s) ?_
  split
  · exact .of_eq rfl
  · exact (reply_records _ _ _ _).after (passTo_records s _ _)

theorem loadSettingsBody_records : KeepsRecords s (loadSettingsBody p r s) := by
  refine .ite (refuse_records _ _ _ _ _ s) ?_
  dsimp only
  split
  · exact refuse_records _ _ _ _ _ s
  · exact (reply_records _ _ _ _).after ((takeDueEdges_records _).after (.of_eq rfl))

theorem loadThresholdsBody_records : KeepsRecords s (loadThresholdsBody p r s) := by
  refine .ite (refuse_records _ _ _ _ _ s) (.ite (refuse_records _ _ _ _ _ s) ?_)
  split
  · exact refuse_records _ _ _ _ _ s
  · exact .of_eq rfl

theorem sectionPutBody_records : KeepsRecords s (sectionPutBody p r s) := by
  unfold sectionPutBody
  split
  · exact refuse_records _ _ _ _ _ s
  · split
    · exact refuse_records _ _ _ _ _ s
    · exact .of_eq rfl

theorem sectionDropBody_records : KeepsRecords s (sectionDropBody p r s) := by
  unfold sectionDropBody; dsimp only
  split
  · exact refuse_records _ _ _ _ _ s
  · exact .ite (.of_eq rfl) (refuse_records _ _ _ _ _ s)

theorem sectionClearBody_records : KeepsRecords s (sectionClearBody p r s) :=
  .ite (.of_eq rfl) (refuse_records _ _ _ _ _ s)

theorem markerPutBody_records : KeepsRecords s (markerPutBody p r s) := .ite (refuse_records _ _ _ _ _ s) (.of_eq rfl)

theorem markerDropBody_records : KeepsRecords s (markerDropBody p r s) := .ite (.of_eq rfl) (refuse_records _ _ _ _ _ s)

theorem markerClearBody_records : KeepsRecords s (markerClearBody p r s) :=
  .ite (.of_eq rfl) (refuse_records _ _ _ _ _ s)

theorem manualFixBody_records : KeepsRecords s (manualFixBody p r s) :=
  .ite (refuse_records _ _ _ _ _ s) (.ite (.of_eq rfl) (refuse_records _ _ _ _ _ s))

/-! ### Runs and resets (R172, R174, R177, R183) -/

/-- A run starts with the list at its reset values; the first point may lead on from there (R172). -/
theorem startRunBody_records : KeepsRecords s (startRunBody p r s) := by
  have begun (x : RunRecord) : KeepsRecords s (beginRun (prepareRun x s)) :=
    (createPoint_records _ _ _ _).after (.of_reset rfl)
  refine .ite (refuse_records _ _ _ _ _ s) (.ite (refuse_records _ _ _ _ _ s) (.ite (refuse_records _ _ _ _ _ s) ?_))
  exact (reply_records _ _ _ _).after (KeepsRecords.after (.of_eq rfl) (begun _))

theorem endRunBody_records : KeepsRecords s (endRunBody p r s) :=
  .ite (refuse_records _ _ _ _ _ s) ((finishTest_records _).after (.of_eq rfl))

theorem refuseClaimant_records : KeepsRecords s (refuseClaimant s) := by
  unfold refuseClaimant; split
  · exact refuseClaim_records s _ _
  · exact .refl s

theorem refusePendingEnd_records : KeepsRecords s (refusePendingEnd s) := by
  unfold refusePendingEnd; split
  · exact .of_eq rfl
  · exact .refl s

theorem resetNotices_records (w c : Option Nat) : KeepsRecords s (resetNotices w c s) := by
  have flushed : KeepsRecords s (endAllStreams .reset (s.mapPorts fun q => { q with notices := [] })) :=
    (endAllStreams_records _ _).after (.of_eq rfl)
  exact .ite (flushed.trans (.of_eq rfl)) (flushed.trans (.of_eq rfl))

theorem resetPartBody_records : KeepsRecords s (resetPartBody p r s) := by
  have parted : KeepsRecords s (partBlocks s) := .of_reset rfl
  exact (reply_records _ _ _ _).after ((resetNotices_records _ _ _).after ((refusePendingEnd_records _).after
    ((refuseClaimant_records _).after parted)))

theorem hardReset_records : KeepsRecords s (hardReset s) := .of_reset rfl

end Bodies

/-! ### Commands and steps -/

/-- Every command keeps the exceedance list consistent. -/
theorem next_records (c : Instr) (s : State) : KeepsRecords s (s.next c) := by
  cases c with
  | powerOn => exact hardReset_records s
  | resetn => exact hardReset_records s
  | timebaseWrap => exact .ite (hardReset_records s) (.refl s)
  | tachRawChange l level => exact rawChange_records l level s
  | tachEdgeValidated l => exact takeEdge_records l s
  | spacingPulseStart => exact spacingStart_records s
  | spacingPulseEnd => exact spacingEnd_records s
  | sensorFrameArrival c bytes => exact sensorFrame_records c bytes s
  | sensorLinkDown c => exact sensorLinkDown_records c s
  | sensorLinkUp c => exact .of_eq rfl
  | sourceStaleDeadline c => exact staleDeadline_records c s
  | alignDeadline => exact alignDeadline_records s
  | clientFrameArrival p bytes => exact clientFrame_records p bytes s
  | clientLinkDown p => exact clientLinkDown_records p s
  | clientLinkUp p => exact .ite (setPort_records p _ s) (.refl s)
  | presenceDeadline p => exact (presenceDeadline_links p s).1.records
  | transmitFrameStart p => exact transmitStart_records p s
  | transmitFrameEnd p => exact setPort_records p _ s
  | yieldDeadline => exact (yieldDeadline_links s).1.records
  | presence p => exact serveKind_records _ _ p (presenceBody p) (fun _ _ => .of_eq rfl) s
  | echo p => exact serveKind_records _ _ p (echoBody p) (fun _ _ => .of_eq rfl) s
  | identify p => exact serveKind_records _ _ p (identifyBody p) (fun _ _ => .of_eq rfl) s
  | setLink p => exact serveKind_records _ _ p _ (setLinkBody_records p) s
  | readStatus p => exact serveKind_records _ _ p _ (readStatusBody_records p) s
  | readTable p => exact serveKind_records _ _ p _ (readTableBody_records p) s
  | readPoints p => exact serveKind_records _ _ p _ (readPointsBody_records p) s
  | streamPoints p => exact serveKind_records _ _ p _ (streamPointsBody_records p) s
  | stopStream p => exact serveKind_records _ _ p _ (stopStreamBody_records p) s
  | readExceedances p => exact serveKind_records _ _ p (readExceedancesBody p) (fun _ _ => .of_eq rfl) s
  | ackUrgent p => exact serveKind_records _ _ p _ (ackUrgentBody_records p) s
  | claim p => exact serveKind_records _ _ p _ (claimBody_records p) s
  | yield p => exact serveKind_records _ _ p _ (yieldBody_records p) s
  | keep p => exact serveKind_records _ _ p _ (keepBody_records p) s
  | release p => exact serveKind_records _ _ p _ (releaseBody_records p) s
  | rejoin p => exact serveKind_records _ _ p (rejoinBody p) (fun _ _ => .of_eq rfl) s
  | loadSettings p => exact serveHolder_records _ _ p _ (loadSettingsBody_records p) s
  | loadThresholds p => exact serveHolder_records _ _ p _ (loadThresholdsBody_records p) s
  | sectionPut p => exact serveHolder_records _ _ p _ (sectionPutBody_records p) s
  | sectionDrop p => exact serveHolder_records _ _ p _ (sectionDropBody_records p) s
  | sectionClear p => exact serveHolder_records _ _ p _ (sectionClearBody_records p) s
  | markerPut p => exact serveHolder_records _ _ p _ (markerPutBody_records p) s
  | markerDrop p => exact serveHolder_records _ _ p _ (markerDropBody_records p) s
  | markerClear p => exact serveHolder_records _ _ p _ (markerClearBody_records p) s
  | startRun p => exact serveHolder_records _ _ p _ (startRunBody_records p) s
  | endRun p => exact serveHolder_records _ _ p _ (endRunBody_records p) s
  | manualFix p => exact serveHolder_records _ _ p _ (manualFixBody_records p) s
  | resetPart p => exact serveHolder_records _ _ p _ (resetPartBody_records p) s
  | unknownKindRequest p => exact serveWhen_records _ p (unknownKindBody p) (fun _ _ => .of_eq rfl) s

/-- The events that an idle step takes are commands, after the due edges. -/
theorem takeDue_records (s : State) : KeepsRecords s (takeDue s) := by
  rw [takeDue_eq]
  exact (spacingStart_records _).after ((KeepsRecords.foldl (fun t c => next_records c t) _ _).after
    (takeDueEdges_records s))

/-- Settles O56: each command by the lemma on its own events, the idle step as the commands whose events it takes. -/
theorem stepsKeepTheExceedanceList : Obligations.StepsKeepTheExceedanceList := by
  intro s t h hstep
  unfold step at hstep
  split at hstep
  · next c rest _ =>
    rw [exec_next] at hstep
    cases hstep
    exact next_records c { s with pending := rest } h
  · cases hstep
    unfold tick
    split
    · exact hardReset_records s h
    · exact takeDue_records s h

end Sys2Proof.Machine
end

section
/-!
PROOFS. ACK_URGENT (R166), and READ_EXCEEDANCES (R170) with the nine words of a record (R168).
-/

namespace Sys2Proof.Machine

section

variable {k : RequestKind} {p : PortId} {r : Request} {rest : List Request} {s : State} {w : Word} {x : ExcRecord}

/-! ### An acknowledgement (R165, R166) -/

theorem acknowledge_exm (p : PortId) (x : ExcRecord) (s : State) :
    (acknowledge p x s).exm = { s.exm.withRecords (updateRecord x.id ({ · with urgency := .acked }) s.exm.records) with
      acknowledgements := min 65535 (s.exm.acknowledgements + 1) } := by
  rw [← inc16_eq]; rfl

/-- Every port is offered the notice of the acknowledgement (R166). -/
theorem acknowledge_port (p : PortId) (x : ExcRecord) (s : State) (j : PortId) :
    (acknowledge p x s).port j = (s.port j).offer
      { cls := .urgentAcked, tag := 0#8,
        payload := ({ x with urgency := .acked } : ExcRecord).words ++ [wordOfNat p.code] } :=
  port_offerAll everyPort _ _ _ j

/-- A request that changes EXM before it is answered: what SVC tested of it stands (R203). -/
theorem Serves.withExm (h : Serves k p r rest s) (e : Exm) : Serves k p r rest { s with exm := e } :=
  ⟨h.head, h.kind, h.idle, h.room, h.unreserved⟩

/-- The notice goes out before the answer. -/
theorem Serves.reply_acknowledge (h : Serves k p r rest s) (x : ExcRecord) (v : List Word) :
    reply p r.tag v (acknowledge p x (s.setPort p ((s.port p).taken rest))) =
      (acknowledge p x s).answered p rest (answerTo r v) := by
  have htaken : acknowledge p x (s.setPort p ((s.port p).taken rest)) =
      (acknowledge p x s).setPort p (((acknowledge p x s).port p).taken rest) :=
    offerAll_taken (s := { s with exm := (acknowledge p x s).exm }) rfl _ _
  rw [htaken]
  exact ((h.withExm _).offered _ _ _).reply_taken v

/-! ### ACK_URGENT (R166) -/

theorem findRecord_eq_none {id : Nat} {l : List ExcRecord} : findRecord id l = none ↔ ∀ x ∈ l, x.id ≠ id := by
  simp [findRecord]

theorem findRecord_id {id : Nat} {l : List ExcRecord} (h : findRecord id l = some x) : x.id = id :=
  of_decide_eq_true (List.find?_some h :)

theorem Serves.ackUrgent_runs (h : Serves .ackUrgent p r rest s) (hp : r.payload = [w]) :
    exec (.ackUrgent p) s = .next (ackUrgentBody p r (s.setPort p ((s.port p).taken rest))) :=
  congrArg Host.Outcome.next (h.body_runs (ok := exactly 1) (by rw [hp]; rfl) (ackUrgentBody p))

/-- The outcomes of ACK_URGENT (R166). -/
theorem Serves.ackUrgent_cases (h : Serves .ackUrgent p r rest s) (hp : r.payload = [w]) :
    ackUrgentBody p r (s.setPort p ((s.port p).taken rest)) =
      match findRecord w.toNat s.exm.records with
      | none => s.answered p rest (refusal r .unknownId 0)
      | some x => match x.urgency with
        | .unacked => (acknowledge p x s).answered p rest (answerTo r [w, 0#32])
        | .acked => s.answered p rest (answerTo r [w, 1#32])
        | .notUrgent => s.answered p rest (answerTo r [w, 2#32]) := by
  have hw : wordOfNat w.toNat = w := by rw [wordOfNat, BitVec.ofNat_toNat, BitVec.setWidth_eq]
  have hid : (payloadWord r.payload 1).toNat = w.toNat := by rw [hp]; rfl
  unfold ackUrgentBody; dsimp only
  rw [hid, hw, h.refuse_taken, h.reply_taken, h.reply_taken, State.setPort_exm]
  cases findRecord w.toNat s.exm.records with
  | none => rfl
  | some x => cases hu : x.urgency <;> simp only [hu, h.reply_acknowledge]

/-- Settles O42: the four outcomes by `Serves.ackUrgent_cases`, and the acknowledgement by what it does to EXM and to
each port. -/
theorem ackUrgentAcknowledges : Obligations.AckUrgentAcknowledges := by
  intro p r rest w s h hp
  rw [h.ackUrgent_runs hp, h.ackUrgent_cases hp]
  refine ⟨fun hnone => by rw [findRecord_eq_none.mpr hnone], fun x hx => ?_⟩
  rw [hx]; dsimp only
  refine ⟨fun hu => by rw [hu], fun hu => by rw [hu], fun hu => ?_⟩
  rw [hu]
  refine ⟨_, rfl, ?_, fun j => ?_, ?_, ?_, rfl⟩
  · rw [← findRecord_id hx]; exact acknowledge_exm p x s
  · rw [← acknowledge_port, State.answered, State.port_setPort_ite]
    split
    · next hj => rw [hj]
    · rfl
  · rw [State.answered, State.port_setPort]
    exact congrArg (· ++ _) (offerAll_replies _ _ _ _ p)
  · rw [State.answered, State.port_setPort]

/-! ### READ_EXCEEDANCES (R170) -/

variable {a b : Word}

theorem Serves.readExceedances_runs (h : Serves .readExceedances p r rest s) (hp : r.payload = [a, b]) :
    exec (.readExceedances p) s = .next (readExceedancesBody p r (s.setPort p ((s.port p).taken rest))) :=
  congrArg Host.Outcome.next (h.body_runs (ok := exactly 2) (by rw [hp]; rfl) (readExceedancesBody p))

/-- The records that a READ_EXCEEDANCES can return, from the from-id on (R170). -/
def Exm.tailFrom (e : Exm) (a : Word) : List ExcRecord := e.records.filter fun x => decide (a.toNat ≤ x.id)

/-- How many of `len` records are returned: as many as are asked for, 0 for all, and fit (R170). -/
def exceedancesReturned (len maxReply : Nat) (b : Word) : Nat :=
  if b = 0#32 then min len ((maxReply - 3) / 9) else min (min len ((maxReply - 3) / 9)) b.toNat

theorem Serves.readExceedances_replies (h : Serves .readExceedances p r rest s) (hp : r.payload = [a, b]) :
    let tail := s.exm.tailFrom a
    let n := exceedancesReturned tail.length (s.port p).options.maxReplyWords b
    readExceedancesBody p r (s.setPort p ((s.port p).taken rest)) = s.answered p rest (answerTo r
      ([wordOfNat s.exm.records.length, wordOrAbsent (tail[n]?.map (·.id))] ++
        (tail.take n).flatMap ExcRecord.words)) := by
  intro tail n
  have hall : b.toNat = 0 ↔ b = 0#32 := BitVec.toNat_inj (y := 0#32)
  have hn : n = if b.toNat = 0 then _ else _ := (if_congr hall rfl rfl).symm
  rw [← h.reply_taken, hn, ← List.head?_drop]
  simp only [readExceedancesBody, hp, maxWords, State.port_setPort]
  rfl

end

/-! ### The nine words of a record (R168) -/

theorem Param.code_lt (p : Param) : p.code < 8 := p.all_code.1

theorem Side.code_lt (d : Side) : d.code < 2 := by cases d <;> decide

theorem UrgentState.code_lt (u : UrgentState) : u.code < 3 := by cases u <;> decide

section

variable (x : ExcRecord)

/-- Word 1: parameter, side, level and urgent state, a byte each. -/
theorem ExcRecord.words_kind (hlevel : x.level ≤ 3) :
    let w : Word := x.words.getD 1 0#32
    w.extractLsb' 0 8 = BitVec.ofNat 8 x.param.code ∧ w.extractLsb' 8 8 = BitVec.ofNat 8 x.side.code ∧
      w.extractLsb' 16 8 = BitVec.ofNat 8 x.level ∧ w.extractLsb' 24 8 = BitVec.ofNat 8 x.urgency.code := by
  intro w
  have hw : w = BitVec.ofNat 32 (x.param.code + x.side.code * 256 + x.level * 65536 + x.urgency.code * 16777216) := rfl
  have hparam := x.param.code_lt
  have hside := x.side.code_lt
  have hurgency := x.urgency.code_lt
  rw [hw]
  refine ⟨extractLsb'_ofNat ?_ ?_, extractLsb'_ofNat ?_ ?_, extractLsb'_ofNat ?_ ?_, extractLsb'_ofNat ?_ ?_⟩ <;> omega

/-- An open record has no end fields. -/
theorem ExcRecord.words_open (h : x.closing = none) :
    x.words.getD 4 0#32 = 0xFFFFFFFF#32 ∧ x.words.getD 5 0#32 = 0#32 ∧
      (x.words.getD 8 0#32).extractLsb' 0 16 = 0xFFFF#16 := by
  unfold ExcRecord.words
  rw [h]
  exact ⟨rfl, rfl, wordOfHalves_low _ _⟩

/-- A closed record carries its end fields and its reason. -/
theorem ExcRecord.words_closed {y : Closing} (h : x.closing = some y) :
    x.words.getD 4 0#32 = BitVec.ofNat 32 y.endIndex ∧ x.words.getD 5 0#32 = BitVec.ofInt 32 y.endChainage ∧
      (x.words.getD 8 0#32).extractLsb' 0 16 = BitVec.ofNat 16 y.reason.code := by
  unfold ExcRecord.words
  rw [h]
  exact ⟨rfl, rfl, wordOfHalves_low _ _⟩

end

/-- Settles O43: the request by `Serves.readExceedances_replies`, the record word by word. -/
theorem readExceedancesReturnsTheTail : Obligations.ReadExceedancesReturnsTheTail := by
  refine ⟨fun p r rest a b s h hp => ?_, fun x hlevel => ?_⟩
  · intro tail fit n
    rw [h.readExceedances_runs hp, h.readExceedances_replies hp]
    refine congrArg (fun next => Host.Outcome.next (s.answered p rest (answerTo r
      ([wordOfNat s.exm.records.length, next] ++ (tail.take n).flatMap ExcRecord.words)))) ?_
    show wordOrAbsent (tail[n]?.map (·.id)) = _
    cases tail[n]? <;> rfl
  · intro w
    obtain ⟨hparam, hside, hlevel, hurgency⟩ := x.words_kind hlevel
    refine ⟨rfl, rfl, hparam.trans ?_, hside.trans ?_, hlevel, hurgency.trans ?_, rfl, rfl, rfl, wordOfHalves_low _ _,
      wordOfHalves_high _ _, (wordOfHalves_high _ _).trans ?_, x.words_open, fun y hy => ?_⟩
    · cases x.param <;> rfl
    · cases x.side <;> rfl
    · cases x.urgency <;> rfl
    · cases x.continued <;> rfl
    · obtain ⟨hindex, hchainage, hreason⟩ := x.words_closed hy
      refine ⟨hindex, hchainage, hreason.trans ?_⟩
      cases y.reason <;> rfl

end Sys2Proof.Machine
end

section
/-!
PROOFS. A port leaves ACTIVE: what the part does beside the port itself, and the three events that lead to it (R110,
R182, R198 to R201, R220).
-/

namespace Sys2Proof.Machine

section

variable {p q j : PortId} {s : State} {cause : AuthCause} {tag : Byte}

/-! ### One port replaced before and after an operation on the others -/

theorem State.setPort_comm (h : j ≠ p) (x y : Port) :
    (s.setPort p x).setPort j y = (s.setPort j y).setPort p x := by
  unfold State.setPort PerPort.set
  cases p <;> cases j <;> simp_all

/-- A port that is not ACTIVE takes no notice, so it can as well be put in place afterwards. -/
theorem setHolder_setPort (h : Option PortId) {x : Port} (hx : x.state ≠ .active) :
    setHolder h cause (s.setPort p x) = (setHolder h cause s).setPort p x := by
  unfold setHolder offerAll State.mapPorts State.setPort PerPort.set
  cases p <;> simp [everyPort, Port.offer_of_not_active x _ hx]

theorem reply_setPort (h : q ≠ p) (x : Port) (w : List Word) :
    reply q tag w (s.setPort p x) = (reply q tag w s).setPort p x := by
  unfold reply answer
  rw [State.port_setPort_of_ne s x h, State.setPort_comm h]

theorem setInService_setPort (h : q ≠ p) (x : Port) (w : Option InService) :
    setInService q w (s.setPort p x) = (setInService q w s).setPort p x := by
  unfold setInService
  rw [State.port_setPort_of_ne s x h, State.setPort_comm h]

theorem grantClaim_setPort (h : q ≠ p) (x : Port) :
    grantClaim q (s.setPort p x) = (grantClaim q s).setPort p x := by
  unfold grantClaim answerClaim
  rw [State.port_setPort_of_ne s x h]
  split
  · dsimp only
    rw [reply_setPort h, setInService_setPort h]
  · rfl

theorem dropPendingEnd_setPort (x : Port) : dropPendingEnd p (s.setPort p x) = (dropPendingEnd p s).setPort p x := by
  unfold dropPendingEnd
  rw [State.setPort_run]
  split
  · split <;> rfl
  · rfl

theorem dropAuthority_setPort {x : Port} (hx : x.state ≠ .active)
    (hc : s.svc.claimant = some p → s.svc.holder ≠ some p) :
    dropAuthority p (s.setPort p x) = (dropAuthority p s).setPort p x := by
  unfold dropAuthority passTo
  rw [State.setPort_svc]
  split
  · next hh =>
    split
    · next q hq =>
      have hne : q ≠ p := fun e => hc (e ▸ hq) hh
      rw [setHolder_setPort _ hx, grantClaim_setPort hne]
    · exact setHolder_setPort none hx
  · split <;> rfl

/-! ### Authority passes or is given up (R201, R217, R220, R222) -/

theorem setHolder_port (h : Option PortId) :
    (setHolder h cause s).port j = (s.port j).offer
      { cls := .authority, tag := 0#8, payload := [portWord h, portWord s.svc.holder, wordOfNat cause.code] } :=
  port_offerAll everyPort _ _ { s with svc := { holder := h, claimant := none, yieldAt := none } } j

/-- A passed authority reaches the claimant's CLAIM, and nothing else but what `setHolder` does. -/
theorem passTo_eq (h : (s.port q).inService = some (.claim tag)) :
    passTo q cause s = (setHolder (some q) cause s).setPort q { (setHolder (some q) cause s).port q with
      inService := none,
      replies := fillReserved { kind := .reply, tag, rest := [wordOfNat q.code] } (s.port q).replies } := by
  unfold passTo grantClaim answerClaim
  simp [setHolder_port, h, setInService, reply, answer]

theorem passTo_frame : passTo q cause s =
    { s with svc := { holder := some q, claimant := none, yieldAt := none }, ports := (passTo q cause s).ports } := by
  unfold passTo grantClaim answerClaim
  split <;> rfl

theorem dropAuthority_frame :
    dropAuthority p s = { s with svc := (dropAuthority p s).svc, ports := (dropAuthority p s).ports } := by
  unfold dropAuthority
  split
  · split
    · rw [passTo_frame]
    · rfl
  · split <;> rfl

/-! ### The part without what a port had from it -/

/-- The part after a port has lost its stream, its pending END_RUN, and its authority or claim. -/
def State.relinquished (p : PortId) (s : State) : State := dropAuthority p (dropPendingEnd p (setStream p none s))

/-- A port that leaves ACTIVE is emptied, and the part gives up what the port had from it. -/
theorem leaveActive_setPort {dest : PortState} (x : Port) (hdest : dest ≠ .active)
    (hc : s.svc.claimant = some p → s.svc.holder ≠ some p) :
    leaveActive p dest (s.setPort p x) = (s.relinquished p).setPort p (x.left dest) := by
  have hsvc : (dropPendingEnd p (setStream p none s)).svc = s.svc := (dropPendingEnd_links p _).2.1
  have hstream : setStream p none (s.setPort p (x.left dest)) = (setStream p none s).setPort p (x.left dest) := rfl
  unfold leaveActive State.relinquished
  rw [State.port_setPort, State.setPort_setPort, hstream, dropPendingEnd_setPort,
    dropAuthority_setPort hdest (by rwa [hsvc])]

theorem relinquished_links : LinksOnly s (s.relinquished p) :=
  (LinksOnly.trans ⟨_, _, _, _, rfl⟩ (dropPendingEnd_links p _).1).trans (dropAuthority_links p _).1

theorem dropPendingEnd_store : (dropPendingEnd p s).store = s.store := by
  unfold dropPendingEnd
  split
  · split <;> rfl
  · rfl

theorem relinquished_stream : (s.relinquished p).stream j = if j = p then none else s.stream j := by
  unfold State.relinquished State.stream
  rw [dropAuthority_frame]
  dsimp only
  rw [dropPendingEnd_store]
  exact setStream_stream_ite j p none s

theorem relinquished_pendingEnd :
    (s.relinquished p).run.pendingEnd = (dropPendingEnd p (setStream p none s)).run.pendingEnd := by
  unfold State.relinquished
  rw [dropAuthority_frame]

/-- An END_RUN of the port is forgotten (R182). -/
theorem relinquished_pendingEnd_own (h : s.run.pendingEnd = some (p, tag)) :
    (s.relinquished p).run.pendingEnd = none := by
  rw [relinquished_pendingEnd]
  simp [dropPendingEnd, h]

/-- An END_RUN of another port still waits for its answer. -/
theorem relinquished_pendingEnd_other (h : ∀ tag, s.run.pendingEnd ≠ some (p, tag)) :
    (s.relinquished p).run.pendingEnd = s.run.pendingEnd := by
  rw [relinquished_pendingEnd]
  unfold dropPendingEnd
  rw [setStream_run]
  split
  · next r tag hr =>
    have hne : r ≠ p := fun e => h tag (e ▸ hr)
    rw [if_neg hne, setStream_run]
  · rfl

/-- Before authority is dropped, authority and the ports are those of the part as it was. -/
theorem relinquished_eq : ∃ u : State, u.svc = s.svc ∧ u.ports = s.ports ∧ s.relinquished p = dropAuthority p u :=
  ⟨dropPendingEnd p (setStream p none s), (dropPendingEnd_links p _).2.1, (dropPendingEnd_links p _).2.2, rfl⟩

/-- The holder without a claim: no port holds, and the ACTIVE ports are told (R201). -/
theorem relinquished_of_holder (hh : s.svc.holder = some p) (hc : s.svc.claimant = none) :
    (s.relinquished p).svc = { holder := none, claimant := none, yieldAt := none } ∧
      ∀ j, (s.relinquished p).port j = (s.port j).offer
        { cls := .authority, tag := 0#8, payload := [Word.absent, wordOfNat p.code, 4#32] } := by
  obtain ⟨u, hsvc, hports, hu⟩ := relinquished_eq (p := p) (s := s)
  have hdrop : s.relinquished p = setHolder none .holderLost u := by
    rw [hu, dropAuthority, hsvc, if_pos hh, hc]
  rw [hdrop]
  refine ⟨rfl, fun j => ?_⟩
  rw [setHolder_port, hsvc, hh, State.port, State.port, hports]
  rfl

/-- The holder with a claim pending: the claimant holds, the ACTIVE ports are told, and the CLAIM is granted (R220). -/
theorem relinquished_of_claimed (hh : s.svc.holder = some p) (hc : s.svc.claimant = some q)
    (hq : (s.port q).inService = some (.claim tag)) :
    (s.relinquished p).svc = { holder := some q, claimant := none, yieldAt := none } ∧
      ∀ j, (s.relinquished p).port j =
        let told := (s.port j).offer
          { cls := .authority, tag := 0#8, payload := [wordOfNat q.code, wordOfNat p.code, 4#32] }
        if j = q then { told with
          inService := none,
          replies := fillReserved { kind := .reply, tag, rest := [wordOfNat q.code] } (s.port q).replies }
        else told := by
  obtain ⟨u, hsvc, hports, hu⟩ := relinquished_eq (p := p) (s := s)
  have hport (j : PortId) : u.port j = s.port j := congrArg (PerPort.get · j) hports
  have hdrop : s.relinquished p = passTo q .holderLost u := by
    rw [hu, dropAuthority, hsvc, if_pos hh, hc]
  rw [hdrop, passTo_eq (hport q ▸ hq)]
  refine ⟨rfl, fun j => ?_⟩
  rw [State.port_setPort_ite, setHolder_port, setHolder_port, hsvc, hh, hport, hport]
  by_cases hj : j = q
  · subst hj; simp only [if_true]; rfl
  · simp only [if_neg hj]; rfl

/-- The claimant: its claim and the deadline are gone, and the holder keeps authority (R220). -/
theorem relinquished_of_claimant (hh : s.svc.holder ≠ some p) (hc : s.svc.claimant = some p) :
    (s.relinquished p).svc = { holder := s.svc.holder, claimant := none, yieldAt := none } ∧
      ∀ j, (s.relinquished p).port j = s.port j := by
  obtain ⟨u, hsvc, hports, hu⟩ := relinquished_eq (p := p) (s := s)
  have hdrop : s.relinquished p = clearClaim u := by
    rw [hu, dropAuthority, hsvc, if_neg hh, if_pos hc]
  rw [hdrop, clearClaim, hsvc]
  exact ⟨rfl, fun j => congrArg (PerPort.get · j) hports⟩

/-- A port that neither holds nor claims: authority is as it was. -/
theorem relinquished_of_neither (hh : s.svc.holder ≠ some p) (hc : s.svc.claimant ≠ some p) :
    (s.relinquished p).svc = s.svc ∧ ∀ j, (s.relinquished p).port j = s.port j := by
  obtain ⟨u, hsvc, hports, hu⟩ := relinquished_eq (p := p) (s := s)
  have hdrop : s.relinquished p = u := by
    rw [hu, dropAuthority, hsvc, if_neg hh, if_neg hc]
  rw [hdrop]
  exact ⟨hsvc, fun j => congrArg (PerPort.get · j) hports⟩

end

/-! ### The three events -/

section

variable {p : PortId} {s : State}

theorem clientLinkDown_of_active (ha : (s.port p).state = .active)
    (hc : s.svc.claimant = some p → s.svc.holder ≠ some p) :
    clientLinkDown p s = (s.relinquished p).setPort p ((s.port p).left .offline).cut := by
  have hleave : leaveActive p .offline s = (s.relinquished p).setPort p ((s.port p).left .offline) := by
    simpa using leaveActive_setPort (s.port p) (dest := .offline) (by decide) hc
  unfold clientLinkDown
  dsimp only
  rw [if_pos ha, hleave, State.port_setPort, State.setPort_setPort]

theorem presenceDeadline_of_due {d : Nat} (ha : (s.port p).state = .active) (hd : (s.port p).presenceAt = some d)
    (hle : d ≤ s.now) (hc : s.svc.claimant = some p → s.svc.holder ≠ some p) :
    presenceDeadline p s = (s.relinquished p).setPort p { (s.port p).left .silent with
      presenceTimeouts := inc16 (s.port p).presenceTimeouts } := by
  have hleave : leaveActive p .silent s = (s.relinquished p).setPort p ((s.port p).left .silent) := by
    simpa using leaveActive_setPort (s.port p) (dest := .silent) (by decide) hc
  unfold presenceDeadline
  rw [hd]
  dsimp only
  rw [if_pos ⟨ha, hle⟩, hleave, State.port_setPort, State.setPort_setPort]
  rfl

/-- The bad frame that bars, on a part whose port has perhaps had its header corrected. -/
theorem badClientFrame_bars {x : Port} (why : BadCause) (ha : x.state = .active)
    (hlimit : s.run.settings.badFrameLimit ≤ x.badRun + 1) (hc : s.svc.claimant = some p → s.svc.holder ≠ some p) :
    badClientFrame p why (s.setPort p x) = (s.relinquished p).setPort p { (x.bad why).left .barred with
      bars := inc16 x.bars } := by
  unfold badClientFrame
  dsimp only
  rw [State.port_setPort, State.setPort_setPort, if_pos (show (x.bad why).state = .active from ha),
    if_pos (show (s.setPort p x).run.settings.badFrameLimit ≤ (x.bad why).badRun + 1 from hlimit),
    leaveActive_setPort _ (by decide) hc, State.port_setPort, State.setPort_setPort]
  rfl

theorem clientFrame_bars {bytes : List Byte} {k : Bool} {why : BadCause} (ha : (s.port p).state = .active)
    (hr : receive bytes = { corrected := k, result := .error why })
    (hlimit : s.run.settings.badFrameLimit ≤ (s.port p).badRun + 1)
    (hc : s.svc.claimant = some p → s.svc.holder ≠ some p) :
    clientFrame p bytes s = (s.relinquished p).setPort p
      { ((if k then (s.port p).corrected else s.port p).bad why).left .barred with bars := inc16 (s.port p).bars } := by
  have hup : (s.port p).state ≠ .offline := by rw [ha]; decide
  unfold clientFrame
  rw [if_neg hup, hr]
  cases k with
  | true => exact badClientFrame_bars (x := (s.port p).corrected) why ha hlimit hc
  | false => simpa using badClientFrame_bars (x := s.port p) why ha hlimit hc

/-- How the port stands after each of the three events that end its ACTIVE state, and the state that it takes. -/
inductive LeavesAs (p : PortId) (s : State) : Instr → PortState → Port → Prop
  | linkDown : LeavesAs p s (.clientLinkDown p) .offline ((s.port p).left .offline).cut
  | presence : LeavesAs p s (.presenceDeadline p) .silent
      { (s.port p).left .silent with presenceTimeouts := inc16 (s.port p).presenceTimeouts }
  | bar (bytes : List Byte) (k : Bool) (why : BadCause) : receive bytes = { corrected := k, result := .error why } →
      LeavesAs p s (.clientFrameArrival p bytes) .barred
        { ((if k then (s.port p).corrected else s.port p).bad why).left .barred with bars := inc16 (s.port p).bars }

variable {c : Instr} {dest : PortState} {x : Port}

/-- Each of the three events empties the port and gives up what it had from the part. -/
theorem exec_portLoss (ha : (s.port p).state = .active) (hclaim : s.svc.claimant = some p → s.svc.holder ≠ some p)
    (hc : c = .clientLinkDown p ∧ dest = .offline ∨
      (c = .presenceDeadline p ∧ dest = .silent ∧ ∃ d, (s.port p).presenceAt = some d ∧ d ≤ s.now) ∨
      ∃ bytes k why, c = .clientFrameArrival p bytes ∧ dest = .barred ∧
        receive bytes = { corrected := k, result := .error why } ∧
        s.run.settings.badFrameLimit ≤ (s.port p).badRun + 1) :
    ∃ x, LeavesAs p s c dest x ∧ exec c s = .next ((s.relinquished p).setPort p x) := by
  rcases hc with ⟨rfl, rfl⟩ | ⟨rfl, rfl, d, hd, hle⟩ | ⟨bytes, k, why, rfl, rfl, hr, hlimit⟩
  · exact ⟨_, .linkDown, congrArg Host.Outcome.next (clientLinkDown_of_active ha hclaim)⟩
  · exact ⟨_, .presence, congrArg Host.Outcome.next (presenceDeadline_of_due ha hd hle hclaim)⟩
  · exact ⟨_, .bar bytes k why hr, congrArg Host.Outcome.next (clientFrame_bars ha hr hlimit hclaim)⟩

/-- The port is emptied (R201). -/
theorem LeavesAs.emptied (h : LeavesAs p s c dest x) : x.left dest = x := by
  cases h <;> rfl

end

/-- Settles O30: the port by the event that it leaves with (`exec_portLoss`), and the rest of the part by the four cases
of authority in `State.relinquished`. -/
theorem portLossSettlesAuthority : Obligations.PortLossSettlesAuthority := by
  intro p s c dest hinv ha hc
  have hclaim : s.svc.claimant = some p → s.svc.holder ≠ some p := fun h => (hinv.claimant p h).1
  obtain ⟨x, hx, hexec⟩ := exec_portLoss ha hclaim hc
  have hself : ((s.relinquished p).setPort p x).port p = x := State.port_setPort _ _ _
  have hothers (j : PortId) (hj : j ≠ p) : ((s.relinquished p).setPort p x).port j = (s.relinquished p).port j :=
    State.port_setPort_of_ne _ x hj
  obtain ⟨_, _, _, _, hlinks⟩ : LinksOnly s ((s.relinquished p).setPort p x) :=
    relinquished_links.trans ⟨_, _, _, _, rfl⟩
  refine ⟨_, hexec, ?_, ?_, fun j => relinquished_stream, by rw [hlinks], by rw [hlinks],
    fun ⟨tag, h⟩ => relinquished_pendingEnd_own h, relinquished_pendingEnd_other, by rw [hlinks], fun hh hn => ?_,
    fun q tag hh hq hs => ?_, fun hp => ?_, fun hh hn => ?_⟩
  · rw [hself, ← hx.emptied]
    exact ⟨rfl, rfl, rfl, rfl, rfl, rfl, rfl, rfl, rfl, rfl⟩
  · rw [hself]
    simp only [← inc16_eq]
    cases hx with
    | linkDown => exact ⟨fun _ => rfl, nofun, nofun⟩
    | presence => exact ⟨nofun, fun _ => rfl, nofun⟩
    | bar bytes k why hr =>
      refine ⟨nofun, nofun, fun bytes' k' why' hbytes hr' => ?_⟩
      cases hbytes
      cases hr.symm.trans hr'
      cases k <;> cases why <;> rfl
  · obtain ⟨hsvc, hports⟩ := relinquished_of_holder hh hn
    exact ⟨hsvc, fun j hj => (hothers j hj).trans (hports j)⟩
  · obtain ⟨hsvc, hports⟩ := relinquished_of_claimed hh hq hs
    exact ⟨hsvc, fun j hj => (hothers j hj).trans (hports j)⟩
  · obtain ⟨hsvc, hports⟩ := relinquished_of_claimant (hclaim hp) hp
    exact ⟨hsvc, fun j hj => (hothers j hj).trans (hports j)⟩
  · obtain ⟨hsvc, hports⟩ := relinquished_of_neither hh hn
    exact ⟨hsvc, fun j hj => (hothers j hj).trans (hports j)⟩

end Sys2Proof.Machine
end

section
/-!
PROOFS. The reset state meets every invariant that the steps keep (R23, R42, R89, R113, R134, R150, R174, R185, R191,
R209, R217).
-/

namespace Sys2Proof.Machine

theorem port_reset (p : PortId) : State.reset.port p = Port.reset := by cases p <;> rfl

theorem stream_reset (p : PortId) : State.reset.stream p = none := by cases p <;> rfl

/-- A port at reset is OFFLINE and holds nothing (R209). -/
theorem Port.reset_ok : Port.reset.Ok none where
  inbox := Nat.zero_le _
  replies := Nat.zero_le _
  notices := Nat.zero_le _
  attn := by decide
  minWords := by decide
  maxWords := by decide
  presence := nofun
  quiet _ := ⟨rfl, rfl, rfl, rfl, rfl, rfl, rfl, rfl, rfl⟩
  down _ := ⟨rfl, rfl, rfl, rfl⟩

theorem portsInv_reset : PortsInv State.reset := fun p => by
  rw [port_reset, stream_reset]
  exact Port.reset_ok

/-- No request is in service, and no port holds or claims (R191, R217). -/
theorem serviceInv_reset : ServiceInv State.reset where
  reserved p := by rw [port_reset]; rfl
  endRun p tag := by rw [port_reset]; exact ⟨nofun, nofun⟩
  claim p := by rw [port_reset]; exact ⟨nofun, nofun⟩
  quiet p _ := by rw [port_reset]; exact ⟨rfl, rfl⟩
  holder := nofun
  claimant := nofun
  deadline := rfl

/-- Every limit is disabled. -/
theorem Limits.zero_ok : Limits.zero.Ok where
  bounded := by decide
  hi12 h := absurd rfl h
  hi13 h := absurd rfl h
  hi23 h := absurd rfl h
  lo12 h := absurd rfl h
  lo13 h := absurd rfl h
  lo23 h := absurd rfl h

theorem limits_reset (k : Fin 8) (p : Param) : (Cls.reset.thresholds.get k).get p = Limits.zero := by
  have hset : Cls.reset.thresholds.get k = thresholdsZero := Vector.getElem_replicate k.isLt
  rw [hset]
  cases p <;> rfl

/-- The tables are empty, and no threshold set has a level (R134, R143, R150). -/
theorem tablesInv_reset : TablesInv State.reset where
  markerCount := Nat.zero_le _
  markerOrder := .nil
  markerRange := nofun
  sectionCount := Nat.zero_le _
  sectionOrder := .nil
  sectionIds := .nil
  sections := nofun
  limits k p := (limits_reset k p).symm ▸ Limits.zero_ok

/-- The defaults lie in their ranges, and the channels stand as they set them (R23, R185). -/
theorem settingsInv_reset : SettingsInv State.reset where
  ranges := by decide
  remainder c := by cases c <;> decide
  quotient c := by cases c <;> rfl
  residue c := by cases c <;> rfl

/-- Every source is ABSENT, and the queues are empty (R42). -/
theorem intakeInv_reset : IntakeInv State.reset.intake where
  queueL := .nil _
  queueR := .nil _
  queueI := .nil _
  live c := by cases c <;> decide

/-- No run exists, and the frontiers are undefined (R113, R191). -/
theorem runInv_reset : RunInv State.reset where
  window := by decide
  refTime := by decide
  record h := absurd rfl h
  pendingEnd := nofun
  deadline := rfl
  idle _ := ⟨rfl, rfl, rfl⟩
  running := nofun
  forming h := absurd rfl h

theorem buffersInv_reset : BuffersInv State.reset := buffersInv_of_reset (Nat.zero_le _) rfl rfl

/-- Settles O4: the values are those of the reset state as it stands, and each invariant has its lemma. -/
theorem resetStateHoldsTheDefaults : Obligations.ResetStateHoldsTheDefaults :=
  ⟨rfl, rfl, rfl, rfl, rfl, rfl, rfl, fun p => by rw [port_reset]; exact ⟨rfl, rfl⟩, portsInv_reset,
    serviceInv_reset, exmInv_reset, tablesInv_reset, settingsInv_reset, intakeInv_reset, runInv_reset,
    buffersInv_reset, Nat.zero_le _⟩

end Sys2Proof.Machine
end

section
/-!
PROOFS. What the measurement chain does to the client ports, said once: it offers notices, moves the streams on or ends
them, and answers the pending END_RUN (R102 to R107, R181, R205). What such an event keeps is then an induction over
`Reports`.
-/

namespace Sys2Proof.Machine

/-- What the part keeps for its clients: the ports, their streams, authority and the pending END_RUN. -/
def State.links (s : State) := (s.ports, s.store.streams, s.svc, s.run.pendingEnd)

/-- From `s` to `t`, the clients are told, their streams move on or end, and the pending END_RUN is answered; else
nothing of `State.links` changes. -/
inductive Reports : State → State → Prop
  | still {s t : State} : t.links = s.links → Reports s t
  | offerTo (p : PortId) (n : Notice) (s : State) : Reports s (offerTo p n s)
  | offerAll {s t : State} (sel : Port → Bool) (c : NoticeClass) (w : List Word) : t.links = s.links →
      Reports s (offerAll sel c w t)
  | setStream {p : PortId} {x : Option Stream} {s : State} : (s.stream p = none → x = none) →
      Reports s (setStream p x s)
  | answerEndRun (s : State) : Reports s (answerEndRun s)
  | trans {s t u : State} : Reports s t → Reports t u → Reports s u

section

variable {s t u : State}

theorem Reports.refl (s : State) : Reports s s := .still rfl

/-- `Reports.trans` with the later event first, which the goal names. -/
theorem Reports.after (k : Reports t u) (h : Reports s t) : Reports s u := h.trans k

theorem Reports.ite {c : Prop} [Decidable c] (ht : Reports s t) (hu : Reports s u) :
    Reports s (if c then t else u) := by split <;> assumption

theorem Reports.foldl {α : Type} {f : State → α → State} (h : ∀ s x, Reports s (f s x)) (l : List α) (s : State) :
    Reports s (l.foldl f s) := by
  induction l generalizing s with
  | nil => exact .refl s
  | cons x l ih => exact (h s x).trans (ih (f s x))

end

/-! ### Streams (R102 to R107) -/

theorem endStream_reports (p : PortId) (why : StreamEnd) (s : State) : Reports s (endStream p why s) := by
  unfold endStream; split
  · exact (Reports.offerTo p _ _).after (.setStream fun _ => rfl)
  · exact .refl s

theorem runOverTest_reports (p : PortId) (s : State) : Reports s (runOverTest p s) := by
  unfold runOverTest; split
  · exact .ite (endStream_reports p _ s) (.refl s)
  · exact .refl s

theorem afterPoints_reports (p : PortId) (s : State) : Reports s (afterPoints p s) := by
  unfold afterPoints; split
  · exact .ite (endStream_reports p _ s) (runOverTest_reports p s)
  · exact .refl s

/-- A stream that a port has moves on behind a notice for it. -/
theorem streamNotice_reports {p : PortId} {s : State} {st : Stream} (h : s.stream p = some st) (n : Notice)
    (x : Option Stream) : Reports s (setStream p x (offerTo p n s)) :=
  Reports.after (.setStream fun hnone => absurd (h.symm.trans hnone) (by simp)) (.offerTo p n s)

theorem buildPoints_reports (n : Nat) (p : PortId) (s : State) : Reports s (buildPoints n p s) := by
  induction n generalizing s with
  | zero => exact .refl s
  | succ n ih =>
    unfold buildPoints; split
    · next st h => exact .ite (.refl s) ((ih _).after ((afterPoints_reports p _).after (streamNotice_reports h _ _)))
    · exact .refl s

theorem streamBuild_reports (p : PortId) (s : State) : Reports s (streamBuild p s) := buildPoints_reports _ p s

theorem streamBuildAll_reports (s : State) : Reports s (streamBuildAll s) :=
  .foldl (fun t p => streamBuild_reports p t) _ s

theorem gapTest_reports (p : PortId) (s : State) : Reports s (gapTest p s) := by
  unfold gapTest; split
  · next st _ h _ =>
    have reported (n : Nat) : Reports s (reportGap p st n s) := streamNotice_reports h _ _
    refine .ite ?_ (.refl s)
    split
    · exact .ite ((endStream_reports p _ _).after (reported _)) ((streamBuild_reports p _).after (reported _))
    · exact (streamBuild_reports p _).after (reported _)
  · exact .refl s

theorem openSlot_reports (x : PointRec) (s : State) : Reports s (openSlot x s) :=
  (Reports.foldl (fun t p => gapTest_reports p t) _ _).after (.still rfl)

theorem endAllStreams_reports (why : StreamEnd) (s : State) : Reports s (endAllStreams why s) :=
  .foldl (fun t p => endStream_reports p why t) _ s

/-! ### The judgement of a point (R151 to R164) -/

theorem closeRecord_reports (p : Param) (why : CloseReason) (i : Nat) (c : Int) (s : State) :
    Reports s (closeRecord p why i c s) := by
  unfold closeRecord; dsimp only; split
  · exact .refl s
  · split
    · exact .offerAll _ _ _ rfl
    · exact .still rfl

theorem closeAtLast_reports (p : Param) (why : CloseReason) (s : State) : Reports s (closeAtLast p why s) := by
  unfold closeAtLast; split
  · exact closeRecord_reports p why _ _ s
  · exact .refl s

theorem openRecord_reports (p : Param) (l : Nat) (d : Side) (v : Int) (at' : PointPlace) (s : State) :
    Reports s (openRecord p l d v at' s) := by
  unfold openRecord; dsimp only; split
  · exact .still rfl
  · exact .ite (.offerAll _ _ _ rfl) (.still rfl)

theorem extendRecord_reports (p : Param) (o : OpenGroup) (l : Nat) (v : Int) (at' : PointPlace) (s : State) :
    Reports s (extendRecord p o l v at' s) := by
  unfold extendRecord; dsimp only; split
  · exact .still rfl
  · exact .ite ((closeRecord_reports p _ _ _ _).after (.ite (.offerAll _ _ _ rfl) (.still rfl)))
      (.ite (.offerAll _ _ _ rfl) (.still rfl))

theorem bridge_reports (p : Param) (s : State) : Reports s (bridge p s) := by
  unfold bridge; dsimp only; split
  · exact .refl s
  · exact .ite ((closeAtLast_reports p _ _).after (.still rfl)) (.still rfl)

theorem applyOutcome_reports (p : Param) (o : ParamOutcome) (v : Int) (at' : PointPlace) (s : State) :
    Reports s (applyOutcome p o v at' s) := by
  unfold applyOutcome; split
  · exact closeAtLast_reports p _ s
  · exact closeAtLast_reports p _ s
  · exact bridge_reports p s
  · split
    · exact openRecord_reports p _ _ v at' s
    · exact .ite (extendRecord_reports p _ _ v at' s)
        ((openRecord_reports p _ _ v at' _).after (closeAtLast_reports p _ s))

/-- A write into a slot leaves the streams. -/
theorem writePoint_reports (k : Nat) (f : PointRec → PointRec) (s : State) : Reports s (writePoint k f s) := by
  rw [writePoint_frame]; exact .still rfl

theorem judgeHeld_reports (x : PointRec) (s : State) : Reports s (judgeHeld x s) := by
  have counted (t : State) (e : Exm) : Reports t { t with exm := e } := .still rfl
  exact (counted _ _).after ((writePoint_reports _ _ _).after
    ((Reports.foldl (fun t p => applyOutcome_reports p _ _ _ t) _ _).after (.still rfl)))

theorem judgeLost_reports (s : State) : Reports s (judgeLost s) := by
  have counted (t : State) (e : Exm) : Reports t { t with exm := e } := .still rfl
  exact (counted _ _).after (.foldl (fun t p => closeAtLast_reports p .void t) _ s)

theorem closeAllRunEnd_reports (s : State) : Reports s (closeAllRunEnd s) :=
  .foldl (fun t p => closeAtLast_reports p .runEnd t) _ s

/-! ### Completion (R61, R81, R83) -/

theorem WritesParams.reports {s t : State} (h : WritesParams s t) : Reports s t := by
  obtain ⟨_, _, _, rfl⟩ := h; exact .still rfl

theorem completePoint_reports (j : Nat) (s : State) : Reports s (completePoint j s) := by
  have advanced (t : State) : Reports t (t.advancedTo j) := (streamBuildAll_reports _).after (.still rfl)
  cases hx : s.store.point j with
  | none =>
    rw [completePoint_of_lost hx]
    exact (advanced _).after ((judgeLost_reports _).after (.still rfl))
  | some x =>
    rw [completePoint_of_held hx]
    exact (advanced _).after ((writePoint_reports _ _ _).after (judgeHeld_reports x s))

theorem geoRawPoint_reports (rp : RawPoint) (s : State) : Reports s (geoRawPoint rp s) := by
  have classified : Reports s (geoClassify rp s) := (writePoint_reports _ _ _).after (.still rfl)
  have written : Reports s (withVersinesOf rp s.run.settings
      (geoPoint rp (isLowSpeed s.run.settings.vMin s.geo.low rp.speed) (geoClassify rp s))) :=
    ((writeVersines_writes _ _ _ _ _).reports.after (writeVersines_writes _ _ _ _ _).reports).after
      ((geoPoint_writes rp _ _).reports.after classified)
  rw [geoRawPoint_eq]
  exact .ite written ((completePoint_reports _ _).after written)

theorem voidVersines_reports (l : List VersineKind) (j m w : Nat) (s : State) :
    Reports s (voidVersines l j m w s) :=
  .ite (.foldl (fun t _ => (writeParam_writes _ _ _ t).reports) l s) (.refl s)

theorem completeTail_reports (w j : Nat) (s : State) : Reports s (completeTail w j s) :=
  (completePoint_reports _ _).after ((writePoint_reports _ _ _).after ((voidVersines_reports _ _ _ _ _).after
    (voidVersines_reports _ _ _ _ s)))

theorem completeTailAll_reports (s : State) : Reports s (completeTailAll s) := by
  have done (t : State) : Reports t { t with geo := { t.geo with tailDone := true } } := .still rfl
  refine (done _).after ?_
  split
  · exact .foldl (fun t i => completeTail_reports _ _ t) _ s
  · exact .refl s

/-! ### The end of a run, and an examination (R46, R56, R180, R181) -/

theorem becomeIdle_reports (s : State) : Reports s (becomeIdle s) := by
  have tested : Reports s s.streamsTested :=
    (Reports.foldl (fun t p => runOverTest_reports p t) _ s.idled).after (.still rfl)
  have told (t : State) : Reports t (runNotice .ended t) := .offerAll _ _ _ rfl
  exact (Reports.answerEndRun _).after ((told _).after tested)

theorem finishRun_reports (s : State) : Reports s (finishRun s) := by
  have staged (t : State) : Reports t (setStage .closing t) := .still rfl
  exact (becomeIdle_reports _).after ((closeAllRunEnd_reports _).after ((staged _).after
    ((completeTailAll_reports _).after (.still rfl))))

theorem finishTest_reports (s : State) : Reports s (finishTest s) := .ite (finishRun_reports s) (.refl s)

theorem formPoint_reports (c : CreatedPoint) (rest : List CreatedPoint) (s : State) :
    Reports s (formPoint c rest s) := (geoRawPoint_reports _ _).after (.still rfl)

theorem formWhile_reports (n : Nat) (s : State) : Reports s (formWhile n s) := by
  induction n generalizing s with
  | zero => exact .refl s
  | succ n ih =>
    unfold formWhile; split
    · exact .ite ((ih _).after (formPoint_reports _ _ s)) (.refl s)
    · exact .refl s

/-- An examination of a part that has the links of `s`. -/
theorem examine_reports {s t : State} (h : t.links = s.links) : Reports s (examine t) := by
  unfold examine
  exact .ite (.still h) ((finishTest_reports _).after ((formWhile_reports _ t).after (.still h)))

theorem alignDeadline_reports (s : State) : Reports s (alignDeadline s) := .ite (examine_reports rfl) (.refl s)

theorem awaitPoint_reports (c : CreatedPoint) (s : State) : Reports s (awaitPoint c s) :=
  .ite (examine_reports rfl) (.still rfl)

/-! ### ODO (R4, R5, R7 to R20) -/

theorem createPoint_reports (k crossing speed : Nat) (s : State) : Reports s (createPoint k crossing speed s) :=
  (awaitPoint_reports _ _).after ((openSlot_reports _ _).after (.still rfl))

theorem createPoints_reports (f : Nat → Nat) (n k : Nat) (s : State) : Reports s (createPoints f n k s) := by
  induction n generalizing k s with
  | zero => exact .refl s
  | succ n ih => exact (ih _ _).after (createPoint_reports _ _ _ s)

theorem backtrackTest_reports (sPrev : Int) (s : State) : Reports s (backtrackTest sPrev s) :=
  .ite (.ite (.offerAll _ _ _ rfl) (.refl s)) (.ite (.offerAll _ _ _ rfl) (.refl s))

theorem sEvent_reports (corr : Bool) (stamp : Nat) (step : Int) (s : State) : Reports s (sEvent corr stamp step s) := by
  unfold sEvent; dsimp only
  generalize h1 : backtrackTest _ _ = s1
  have k1 : Reports s s1 := by subst h1; exact (backtrackTest_reports _ _).after (.still rfl)
  exact .ite ((createPoints_reports _ _ _ _).after (k1.trans (.still rfl))) (k1.trans (.still rfl))

theorem reportFault_reports (s : State) : Reports s (reportFault s) := .ite (.refl s) (.offerAll _ _ _ rfl)

theorem enterSlide_reports (s : State) : Reports s (enterSlide s) := by
  have told : Reports s (if s.odo.disagreed.state ≠ s.odo.state then
      odometryNotice 0 { s with odo := s.odo.disagreed } else { s with odo := s.odo.disagreed }) :=
    .ite (.offerAll _ _ _ rfl) (.still rfl)
  exact .ite ((reportFault_reports _).after told) told

theorem correctSlide_reports (w : Window) (stamp : Nat) (s : State) : Reports s (correctSlide w stamp s) := by
  have believed (t : State) (o : Odo) : Reports t { t with odo := o } := .still rfl
  exact .ite ((believed _ _).after (sEvent_reports true stamp _ s)) (.refl s)

theorem closeAgreeing_reports (s : State) : Reports s (closeAgreeing s) :=
  .ite (.offerAll _ _ _ rfl) (.still rfl)

theorem windowTest_reports (stamp : Nat) (s : State) : Reports s (windowTest stamp s) := by
  unfold windowTest; split
  · refine .ite (.ite (.still rfl) (.ite ((closeAgreeing_reports _).after (.still rfl)) ?_)) (.refl s)
    exact (correctSlide_reports _ _ _).after ((enterSlide_reports _).after (.still rfl))
  · exact .refl s

theorem takePulse_reports (c : Channel) (stamp : Nat) (fwd : Bool) (s : State) :
    Reports s (takePulse c stamp fwd s) :=
  (windowTest_reports _ _).after (.ite ((sEvent_reports _ _ _ _).after (.still rfl)) (.still rfl))

theorem validateEdge_reports (l : TachLine) (t : Nat) (s : State) : Reports s (validateEdge l t s) := by
  have pulsed (c : Channel) (fwd : Bool) (u : State) : Reports u (pulse c t fwd u) :=
    .ite (.refl u) (.ite (.refl u) (takePulse_reports c t fwd u))
  unfold validateEdge; dsimp only; split
  · exact .ite ((pulsed _ _ _).after (.still rfl)) (.still rfl)
  · exact .still rfl

theorem takeEdge_reports (l : TachLine) (s : State) : Reports s (takeEdge l s) := by
  unfold takeEdge; dsimp only; split
  · exact .ite (validateEdge_reports l _ s) (.refl s)
  · exact .refl s

theorem takeDueEdges_reports (s : State) : Reports s (takeDueEdges s) := by
  refine .foldl (fun t _ => ?_) _ s
  split
  · exact takeEdge_reports _ t
  · exact .refl t

theorem rawChange_reports (l : TachLine) (level : Bool) (s : State) : Reports s (rawChange l level s) := by
  have taken : Reports s
      (if (s.odo.lines.get l).due s.run.settings.glitchUs s.now = true then takeDueEdges s else s) :=
    .ite (takeDueEdges_reports s) (.refl s)
  exact .ite taken (taken.trans (.still rfl))

theorem spacingStart_reports (s : State) : Reports s (spacingStart s) := .ite (.still rfl) (.refl s)

theorem spacingEnd_reports (s : State) : Reports s (spacingEnd s) := .ite (.still rfl) (.refl s)

/-! ### POS (R121 to R126) -/

theorem countMismatch_reports (f : MarkerFields) (e d : Int) (t : Nat) (s : State) :
    Reports s (countMismatch f e d t s) := by
  unfold countMismatch; dsimp only
  generalize h1 : locationNotice .mismatch _ _ _ _ _ = s1
  have told : Reports s s1 := by subst h1; exact .offerAll _ _ _ rfl
  exact .ite (told.trans (.offerAll _ _ _ rfl)) told

theorem judgeRead_reports (ident : Nat) (m d : Int) (t : Nat) (s : State) : Reports s (judgeRead ident m d t s) := by
  have rebased (f : MarkerFields) (e : Int) : Reports s (rebaseOn f e d t s) :=
    .ite (.offerAll _ _ _ rfl) (.still rfl)
  unfold judgeRead; dsimp only; split
  · exact .ite (.ite (.offerAll _ _ _ rfl) (.still rfl)) (countMismatch_reports _ _ _ _ s)
  · exact rebased _ _
  · exact rebased _ _

theorem takeMarkerRead_reports (ident stamp : Nat) (d : Int) (s : State) :
    Reports s (takeMarkerRead ident stamp d s) := by
  unfold takeMarkerRead; dsimp only
  refine .ite (.still rfl) (.ite (.still rfl) ?_)
  split
  · exact .still rfl
  · exact .ite (.still rfl) (judgeRead_reports _ _ _ _ s)

/-! ### INTAKE (R24 to R38) -/

theorem tellGrid_reports (c : Source) (s : State) : Reports s (tellGrid c s) := .ite (examine_reports rfl) (.refl s)

theorem refreshLiveness_reports (c : Source) (s : State) : Reports s (refreshLiveness c s) :=
  .ite (.still rfl) (.offerAll _ _ _ rfl)

theorem loseLiveness_reports (c : Source) (s : State) : Reports s (loseLiveness c s) :=
  .ite ((tellGrid_reports c _).after (.offerAll _ _ _ rfl)) (.refl s)

theorem staleDeadline_reports (c : Source) (s : State) : Reports s (staleDeadline c s) := by
  unfold staleDeadline; split
  · exact .ite (loseLiveness_reports c s) (.refl s)
  · exact .refl s

theorem sensorLinkDown_reports (c : Source) (s : State) : Reports s (sensorLinkDown c s) :=
  (loseLiveness_reports c _).after (.still rfl)

theorem stampSample_reports (c : Source) (handOn : Nat → State → State) (h : ∀ t s, Reports s (handOn t s))
    (s : State) : Reports s (stampSample c handOn s) := by
  unfold stampSample; split
  · exact (h _ _).after (.still rfl)
  · exact .still rfl

theorem queueHead_reports (left : Bool) (v : HeadVals) (t : Nat) (s : State) : Reports s (queueHead left v t s) :=
  .ite (.refl s) (examine_reports rfl)

theorem queueInertial_reports (v : InertialVals) (clamp : Bool) (t : Nat) (s : State) :
    Reports s (queueInertial v clamp t s) := .ite (.refl s) (examine_reports rfl)

theorem headSample_reports (left : Bool) (w : List Word) (s : State) : Reports s (headSample left w s) :=
  .ite (stampSample_reports _ _ (queueHead_reports left _) s) (.still rfl)

theorem takeSample_reports (c : Source) (w : List Word) (s : State) : Reports s (takeSample c w s) := by
  cases c with
  | headL => exact headSample_reports true w s
  | headR => exact headSample_reports false w s
  | inertial =>
    exact (stampSample_reports _ _ (queueInertial_reports _ _) _).after (.ite (.still rfl) (.refl s))
  | marker =>
    refine .ite (.still rfl) (stampSample_reports _ _ (fun t x => ?_) s)
    exact (takeMarkerRead_reports _ _ _ _).after (.still rfl)

theorem validSensorFrame_reports (c : Source) (w : List Word) (s : State) : Reports s (validSensorFrame c w s) := by
  have tracked (t : State) : Reports t (updateUnit c (·.track (seqField w)) t) := .still rfl
  have taken := (takeSample_reports c w _).after ((tracked _).after (refreshLiveness_reports c s))
  exact .ite taken ((tellGrid_reports c _).after taken)

theorem sensorFrame_reports (c : Source) (bytes : List Byte) (s : State) : Reports s (sensorFrame c bytes s) := by
  have checked (f : RxFrame) (t : State) : Reports t (checkedSensorFrame c f t) :=
    .ite (.still rfl) (.ite (.still rfl) (validSensorFrame_reports c _ t))
  have bad (t : State) : Reports t (badSensorFrame c t) := .still rfl
  have corrected : Reports s (if (receive bytes).corrected = true then
      updateUnit c (fun u => { u with correctedHeaders := inc16 u.correctedHeaders }) s else s) :=
    .ite (.still rfl) (.refl s)
  refine .ite ?_ (.refl s)
  dsimp only
  split
  · exact (bad _).after corrected
  · exact (checked _ _).after corrected

end Sys2Proof.Machine
end

section
/-!
PROOFS. Every step keeps the invariant of the client ports (R197 to R214): what keeps the invariant of one port, then the
operations on the ports, the events of the links, the requests, and the commands.
-/

namespace Sys2Proof.Machine

/-! ### One port -/

section

variable {q : Port} {x : Option Stream}

/-- Of an ACTIVE port the invariant says only its capacities, ATTN, the options' range and the presence deadline. -/
theorem Port.Ok.of_active (ha : q.state = .active) (inbox : q.inbox.length ≤ inboxCapacity)
    (replies : q.replies.length ≤ replyCapacity) (notices : q.notices.length ≤ noticeCapacity)
    (attn : q.attn = true ↔ q.attention ≠ 0#12) (minWords : 12 ≤ q.options.maxReplyWords)
    (maxWords : q.options.maxReplyWords ≤ 255) (presence : q.presenceAt.isSome = true) : q.Ok x where
  inbox := inbox
  replies := replies
  notices := notices
  attn := attn.trans (and_iff_right ha).symm
  minWords := minWords
  maxWords := maxWords
  presence _ := presence
  quiet h := absurd ha h
  down h := by rw [ha] at h; cases h

/-- Of a port that is not ACTIVE the invariant says that it is empty, with ATTN off. -/
theorem Port.Ok.of_quiet (hs : q.state ≠ .active) (quiet : q.Quiet x) (attn : q.attn = false)
    (down : q.state = .offline → q.Down) : q.Ok x where
  inbox := quiet.inbox ▸ Nat.zero_le _
  replies := quiet.replies ▸ Nat.zero_le _
  notices := quiet.notices ▸ Nat.zero_le _
  attn := by simp [attn, hs]
  minWords := quiet.options ▸ by decide
  maxWords := quiet.options ▸ by decide
  presence h := absurd h hs
  quiet _ := quiet
  down := down

theorem Port.Ok.attn_of_active (h : q.Ok x) (ha : q.state = .active) : q.attn = true ↔ q.attention ≠ 0#12 :=
  h.attn.trans (and_iff_right ha)

theorem Port.Ok.attn_of_quiet (h : q.Ok x) (hs : q.state ≠ .active) : q.attn = false :=
  Bool.eq_false_iff.mpr fun k => hs (h.attn.mp k).1

/-- A port that has a request, or a stream, is ACTIVE (R201). -/
theorem Port.Ok.active_of_inbox (h : q.Ok x) (hi : q.inbox ≠ []) : q.state = .active :=
  Decidable.byContradiction fun hs => hi (h.quiet hs).inbox

theorem Port.Ok.active_of_stream (h : q.Ok x) (hx : x ≠ none) : q.state = .active :=
  Decidable.byContradiction fun hs => hx (h.quiet hs).stream

/-- ATTN follows an attention set that is replaced (R207). -/
theorem Port.Ok.withAttention (h : q.Ok x) (ha : q.state = .active) (a : BitVec 12) : (q.withAttention a).Ok x :=
  .of_active ha h.inbox h.replies h.notices (by simp [Port.withAttention, ha]) h.minWords h.maxWords (h.presence ha)

theorem Port.Ok.attend (h : q.Ok x) (ha : q.state = .active) (c : NoticeClass) : (q.attend c).Ok x := by
  unfold Port.attend
  split
  · exact h.withAttention ha _
  · exact h

/-- A full notice queue takes no notice (R205). -/
theorem Port.Ok.enqueue (h : q.Ok x) (ha : q.state = .active) (n : Notice) : (q.enqueue n).Ok x := by
  unfold Port.enqueue
  split
  · next hroom =>
    exact .of_active ha h.inbox h.replies (by simpa using hroom) (h.attn_of_active ha) h.minWords h.maxWords
      (h.presence ha)
  · exact .of_active ha h.inbox h.replies h.notices (h.attn_of_active ha) h.minWords h.maxWords (h.presence ha)

theorem Port.Ok.offer (h : q.Ok x) (n : Notice) : (q.offer n).Ok x := by
  by_cases ha : q.state = .active
  · rw [Port.offer, if_pos ha]
    exact (h.attend ha n.cls).enqueue ((Port.attend_keeps q n.cls).state.trans ha) n
  · rw [Port.offer_of_not_active q n ha]
    exact h

/-- The replies and the request in service of an ACTIVE port, within the capacity of the reply queue. -/
theorem Port.Ok.serve (h : q.Ok x) (ha : q.state = .active) {r : List ReplySlot} (hr : r.length ≤ replyCapacity)
    (v : Option InService) : ({ q with inService := v, replies := r } : Port).Ok x :=
  .of_active ha h.inbox hr h.notices (h.attn_of_active ha) h.minWords h.maxWords (h.presence ha)

/-- An answered or released reservation (R204); a port that is not ACTIVE has none. -/
theorem Port.Ok.settle (h : q.Ok x) {f : List ReplySlot → List ReplySlot} (hnil : f [] = [])
    (hlen : ∀ l, (f l).length ≤ l.length) {v : Option InService} (hv : v = q.inService ∨ v = none) :
    ({ q with inService := v, replies := f q.replies } : Port).Ok x := by
  by_cases ha : q.state = .active
  · exact h.serve ha ((hlen _).trans h.replies) v
  · have hq := h.quiet ha
    have hservice : v = none := by rcases hv with rfl | rfl <;> [exact hq.inService; rfl]
    exact .of_quiet ha ⟨hq.inbox, hservice, by simp [hq.replies, hnil], hq.notices, hq.stream, hq.presenceAt, hq.badRun,
      hq.attention, hq.options⟩ (h.attn_of_quiet ha) fun ho => ⟨(h.down ho).linkErrors, (h.down ho).txSeq,
        (h.down ho).rxSeq, (h.down ho).sending⟩

end

/-! ### All ports -/

/-- From `s` to `t`, each port keeps its invariant. -/
def KeepsPorts (s t : State) : Prop := ∀ j, (s.port j).Ok (s.stream j) → (t.port j).Ok (t.stream j)

section

variable {s t u : State} {p : PortId}

theorem KeepsPorts.inv (h : KeepsPorts s t) (k : PortsInv s) : PortsInv t := fun j => h j (k j)

theorem KeepsPorts.refl (s : State) : KeepsPorts s s := fun _ => id

theorem KeepsPorts.trans (h : KeepsPorts s t) (k : KeepsPorts t u) : KeepsPorts s u := fun j => k j ∘ h j

/-- `KeepsPorts.trans` with the later event first, which the goal names. -/
theorem KeepsPorts.after (k : KeepsPorts t u) (h : KeepsPorts s t) : KeepsPorts s u := h.trans k

theorem KeepsPorts.ite {c : Prop} [Decidable c] (ht : KeepsPorts s t) (hu : KeepsPorts s u) :
    KeepsPorts s (if c then t else u) := by split <;> assumption

/-- The invariant looks at the ports and their streams alone. -/
theorem KeepsPorts.of_eq (hp : t.ports = s.ports) (hs : t.store.streams = s.store.streams) : KeepsPorts s t := by
  intro j h
  rw [State.port, State.stream] at h ⊢
  rwa [hp, hs]

theorem setPort_keepsPorts {q : Port} (h : (s.port p).Ok (s.stream p) → q.Ok (s.stream p)) :
    KeepsPorts s (s.setPort p q) := by
  intro j k
  rw [State.port_setPort_ite, State.setPort_stream]
  split
  · next e => subst e; exact h k
  · exact k

theorem offerTo_keepsPorts (p : PortId) (n : Notice) (s : State) : KeepsPorts s (offerTo p n s) :=
  setPort_keepsPorts fun h => h.offer n

theorem offerAll_keepsPorts (sel : Port → Bool) (c : NoticeClass) (w : List Word) (s : State) :
    KeepsPorts s (offerAll sel c w s) := by
  intro j h
  rw [port_offerAll]
  split
  · exact h.offer _
  · exact h

/-- A stream that ends, or that an ACTIVE port begins or moves on. -/
theorem setStream_keepsPorts {x : Option Stream}
    (h : x = none ∨ ((s.port p).Ok (s.stream p) → (s.port p).state = .active)) : KeepsPorts s (setStream p x s) := by
  intro j k
  rw [setStream_port, setStream_stream_ite]
  split
  · next e =>
    subst e
    by_cases ha : (s.port j).state = .active
    · exact .of_active ha k.inbox k.replies k.notices (k.attn_of_active ha) k.minWords k.maxWords (k.presence ha)
    · rcases h with rfl | h
      · rwa [← (k.quiet ha).stream]
      · exact absurd (h k) ha
  · exact k

/-- An answer fills a reservation of a port, if there is one (R204). -/
theorem answer_keepsPorts (p : PortId) (a : Answer) (s : State) : KeepsPorts s (answer p a s) :=
  setPort_keepsPorts fun h => h.settle rfl (fun l => (fillReserved_length a l).le) (.inl rfl)

theorem reply_keepsPorts (p : PortId) (tag : Byte) (w : List Word) (s : State) : KeepsPorts s (reply p tag w s) :=
  answer_keepsPorts p _ s

theorem refuse_keepsPorts (p : PortId) (k tag : Byte) (why : Reason) (n : Nat) (s : State) :
    KeepsPorts s (refuse p k tag why n s) := answer_keepsPorts p _ s

theorem releaseReservation_keepsPorts (p : PortId) (s : State) : KeepsPorts s (releaseReservation p s) :=
  setPort_keepsPorts fun h => h.settle rfl dropReserved_length_le (.inl rfl)

theorem endService_keepsPorts (p : PortId) (s : State) : KeepsPorts s (setInService p none s) :=
  setPort_keepsPorts fun h => h.settle (f := id) rfl (fun _ => Nat.le_refl _) (.inr rfl)

/-- A request stays in service at an ACTIVE port (R210). -/
theorem beginService_keepsPorts (ha : (s.port p).state = .active) (v : Option InService) :
    KeepsPorts s (setInService p v s) := setPort_keepsPorts fun h => h.serve ha h.replies v

theorem answerEndRun_keepsPorts (s : State) : KeepsPorts s (answerEndRun s) := by
  unfold answerEndRun
  split
  · exact KeepsPorts.after (.of_eq rfl rfl) ((endService_keepsPorts _ _).after (reply_keepsPorts _ _ _ s))
  · exact .refl s

theorem State.links_eq (h : t.links = s.links) :
    t.ports = s.ports ∧ t.store.streams = s.store.streams ∧ t.svc = s.svc ∧ t.run.pendingEnd = s.run.pendingEnd := by
  simpa only [State.links, Prod.mk.injEq] using h

/-- The events of the measurement chain. -/
theorem Reports.keepsPorts (h : Reports s t) : KeepsPorts s t := by
  induction h with
  | still h => exact .of_eq (State.links_eq h).1 (State.links_eq h).2.1
  | offerTo p n s => exact offerTo_keepsPorts p n s
  | offerAll sel c w h =>
    exact (offerAll_keepsPorts sel c w _).after (.of_eq (State.links_eq h).1 (State.links_eq h).2.1)
  | @setStream p x s h =>
    refine setStream_keepsPorts ?_
    by_cases hx : x = none
    · exact .inl hx
    · exact .inr fun k => k.active_of_stream fun hnone => hx (h hnone)
  | answerEndRun s => exact answerEndRun_keepsPorts s
  | trans _ _ h k => exact h.trans k

/-- What no event of the measurement chain changes at a port. -/
theorem Reports.port_keeps (h : Reports s t) (j : PortId) : PortKeeps (s.port j) (t.port j) := by
  have same {s t : State} (h : t.links = s.links) : s.port j = t.port j := by
    rw [State.port, State.port, (State.links_eq h).1]
  induction h with
  | still h => exact same h ▸ .refl _
  | offerTo p n s => exact (offerTo_calm p n s).keeps.ports j
  | @offerAll s t sel c w h => exact same h ▸ (offerAll_calm sel c w t).keeps.ports j
  | setStream => exact .refl _
  | answerEndRun s => exact (answerEndRun_calm s).keeps.ports j
  | trans _ _ h k => exact h.trans k

end

/-! ### Authority (R217 to R220) -/

theorem setHolder_keepsPorts (h : Option PortId) (cause : AuthCause) (s : State) :
    KeepsPorts s (setHolder h cause s) := (offerAll_keepsPorts _ _ _ _).after (.of_eq rfl rfl)

theorem answerClaim_keepsPorts (q : PortId) {respond : Byte → State → State} (h : ∀ b t, KeepsPorts t (respond b t))
    (s : State) : KeepsPorts s (answerClaim q respond s) := by
  unfold answerClaim
  split
  · exact (endService_keepsPorts q _).after (h _ s)
  · exact .refl s

theorem passTo_keepsPorts (q : PortId) (cause : AuthCause) (s : State) : KeepsPorts s (passTo q cause s) :=
  (answerClaim_keepsPorts q (fun tag t => reply_keepsPorts q tag _ t) _).after (setHolder_keepsPorts _ cause s)

theorem refuseClaim_keepsPorts (q : PortId) (why : Reason) (s : State) : KeepsPorts s (refuseClaim q why s) :=
  answerClaim_keepsPorts q (fun tag t => refuse_keepsPorts q _ tag why 0 t) s

theorem clearClaim_keepsPorts (s : State) : KeepsPorts s (clearClaim s) := .of_eq rfl rfl

theorem yieldDeadline_keepsPorts (s : State) : KeepsPorts s (yieldDeadline s) := by
  unfold yieldDeadline
  split
  · exact .ite (passTo_keepsPorts _ _ s) (.refl s)
  · exact .refl s

theorem dropAuthority_keepsPorts (p : PortId) (s : State) : KeepsPorts s (dropAuthority p s) := by
  unfold dropAuthority
  refine .ite ?_ (.ite (clearClaim_keepsPorts s) (.refl s))
  split
  · exact passTo_keepsPorts _ _ s
  · exact setHolder_keepsPorts _ _ s

theorem dropPendingEnd_keepsPorts (p : PortId) (s : State) : KeepsPorts s (dropPendingEnd p s) :=
  .of_eq (dropPendingEnd_links p s).2.2 (congrArg Store.streams dropPendingEnd_store)

/-! ### A port leaves ACTIVE (R201) -/

section

variable {p : PortId} {dest : PortState} {s : State}

/-- A port that is not ACTIVE and has no CLAIM in service is as it was when authority passes on. -/
theorem passTo_port_self {q : PortId} {cause : AuthCause} (hs : (s.port p).state ≠ .active)
    (hv : (s.port p).inService = none) : (passTo q cause s).port p = s.port p := by
  have told : (setHolder (some q) cause s).port p = s.port p := by
    rw [setHolder_port, Port.offer_of_not_active _ _ hs]
  by_cases hq : p = q
  · subst hq
    rw [passTo, grantClaim, answerClaim, told, hv]
    exact told
  · unfold passTo grantClaim answerClaim
    split
    · dsimp only
      rw [setInService, State.port_setPort_of_ne _ _ hq, reply, answer, State.port_setPort_of_ne _ _ hq, told]
    · exact told

theorem dropAuthority_port_self (hs : (s.port p).state ≠ .active) (hv : (s.port p).inService = none) :
    (dropAuthority p s).port p = s.port p := by
  unfold dropAuthority
  split
  · split
    · exact passTo_port_self hs hv
    · rw [setHolder_port, Port.offer_of_not_active _ _ hs]
  · split <;> rfl

theorem leaveActive_port_self (hs : dest ≠ .active) : (leaveActive p dest s).port p = (s.port p).left dest := by
  have hdrop : (dropPendingEnd p (setStream p none (s.setPort p ((s.port p).left dest)))).port p =
      (s.port p).left dest := by
    rw [State.port, (dropPendingEnd_links p _).2.2]
    exact State.port_setPort s p _
  rw [leaveActive, dropAuthority_port_self (by rw [hdrop]; exact hs) (by rw [hdrop]; rfl), hdrop]

theorem leaveActive_stream_self : (leaveActive p dest s).stream p = none := by
  rw [leaveActive, dropAuthority_frame, State.stream]
  dsimp only
  rw [dropPendingEnd_store]
  exact setStream_stream p none _

/-- The other ports keep their invariant when a port leaves ACTIVE, and the port itself is replaced. -/
theorem leave_keepsPorts {x : Port} (hx : x.Ok none) : KeepsPorts s ((leaveActive p dest s).setPort p x) := by
  intro j h
  rw [State.port_setPort_ite, State.setPort_stream]
  split
  · next e => rw [e, leaveActive_stream_self]; exact hx
  · next hj =>
    refine dropAuthority_keepsPorts p _ j (dropPendingEnd_keepsPorts p _ j ?_)
    rwa [setStream_port, setStream_stream_ite, if_neg hj, State.port_setPort_of_ne _ _ hj, State.setPort_stream]

/-- Counters, link errors and sequences of a port that is not OFFLINE do not enter its invariant. -/
structure Port.SameRole (q r : Port) : Prop where
  state : r.state = q.state
  inbox : r.inbox = q.inbox
  inService : r.inService = q.inService
  replies : r.replies = q.replies
  notices : r.notices = q.notices
  presenceAt : r.presenceAt = q.presenceAt
  badRun : r.badRun = q.badRun
  attention : r.attention = q.attention
  attn : r.attn = q.attn
  options : r.options = q.options

theorem Port.Ok.of_sameRole {q r : Port} {x : Option Stream} (h : q.Ok x) (k : q.SameRole r)
    (ho : q.state ≠ .offline) : r.Ok x where
  inbox := k.inbox ▸ h.inbox
  replies := k.replies ▸ h.replies
  notices := k.notices ▸ h.notices
  attn := by rw [k.attn, k.state, k.attention]; exact h.attn
  minWords := k.options ▸ h.minWords
  maxWords := k.options ▸ h.maxWords
  presence ha := by rw [k.presenceAt]; exact h.presence (k.state ▸ ha)
  quiet hs := by
    obtain ⟨h1, h2, h3, h4, h5, h6, h7, h8, h9⟩ := h.quiet (k.state ▸ hs)
    exact ⟨k.inbox.trans h1, k.inService.trans h2, k.replies.trans h3, k.notices.trans h4, h5, k.presenceAt.trans h6,
      k.badRun.trans h7, k.attention.trans h8, k.options.trans h9⟩
  down h := absurd (k.state ▸ h) ho

end

/-! ### The events of the links (R198 to R206) -/

/-- A port whose link goes down, once it has left ACTIVE (R196 to R198). -/
theorem Port.Ok.cut {q : Port} {x : Option Stream} (h : q.Ok x) (hs : q.state ≠ .active) : q.cut.Ok x := by
  have hq := h.quiet hs
  exact .of_quiet nofun ⟨hq.inbox, hq.inService, hq.replies, hq.notices, hq.stream, hq.presenceAt, hq.badRun,
    hq.attention, hq.options⟩ (h.attn_of_quiet hs) fun _ => ⟨rfl, rfl, rfl, rfl⟩

theorem clientLinkDown_keepsPorts (p : PortId) (s : State) : KeepsPorts s (clientLinkDown p s) := by
  have cutLeft (q : Port) : (q.left .offline).cut.Ok none :=
    .of_quiet nofun ⟨rfl, rfl, rfl, rfl, rfl, rfl, rfl, rfl, rfl⟩ rfl fun _ => ⟨rfl, rfl, rfl, rfl⟩
  unfold clientLinkDown
  dsimp only
  split
  · refine leave_keepsPorts ?_
    rw [leaveActive_port_self (by decide)]
    exact cutLeft _
  · next hs => exact setPort_keepsPorts fun h => h.cut hs

theorem clientLinkUp_keepsPorts (p : PortId) (s : State) : KeepsPorts s (clientLinkUp p s) := by
  unfold clientLinkUp
  split
  · next ho =>
    have hs : (s.port p).state ≠ .active := by rw [ho]; decide
    refine setPort_keepsPorts fun h => ?_
    have hq := h.quiet hs
    exact .of_quiet nofun ⟨hq.inbox, hq.inService, hq.replies, hq.notices, hq.stream, hq.presenceAt, hq.badRun,
      hq.attention, hq.options⟩ (h.attn_of_quiet hs) nofun
  · exact .refl s

theorem presenceDeadline_keepsPorts (p : PortId) (s : State) : KeepsPorts s (presenceDeadline p s) := by
  unfold presenceDeadline
  split
  · refine .ite (leave_keepsPorts ?_) (.refl s)
    rw [leaveActive_port_self (by decide)]
    exact .of_quiet nofun ⟨rfl, rfl, rfl, rfl, rfl, rfl, rfl, rfl, rfl⟩ rfl nofun
  · exact .refl s

/-- A bad frame on a port whose link is up (R200). -/
theorem badClientFrame_keepsPorts {p : PortId} {s : State} (why : BadCause) (ho : (s.port p).state ≠ .offline) :
    KeepsPorts s (badClientFrame p why s) := by
  have counted (h : (s.port p).Ok (s.stream p)) : ((s.port p).bad why).Ok (s.stream p) :=
    h.of_sameRole ⟨rfl, rfl, rfl, rfl, rfl, rfl, rfl, rfl, rfl, rfl⟩ ho
  unfold badClientFrame
  dsimp only
  split
  · next ha =>
    split
    · refine (leave_keepsPorts ?_).after (setPort_keepsPorts counted)
      rw [leaveActive_port_self (by decide)]
      exact .of_quiet nofun ⟨rfl, rfl, rfl, rfl, rfl, rfl, rfl, rfl, rfl⟩ rfl nofun
    · exact setPort_keepsPorts fun h => .of_active ha h.inbox h.replies h.notices (h.attn_of_active ha) h.minWords
        h.maxWords (h.presence ha)
  · exact setPort_keepsPorts counted

theorem Port.track_sameRole (q : Port) (seq : BitVec 2) : q.SameRole (q.track seq) := by
  unfold Port.track
  split
  · split <;> exact ⟨rfl, rfl, rfl, rfl, rfl, rfl, rfl, rfl, rfl, rfl⟩
  · exact ⟨rfl, rfl, rfl, rfl, rfl, rfl, rfl, rfl, rfl, rfl⟩

/-- A port that is or becomes ACTIVE by a valid frame (R198, R199): one that was quiet has an empty attention set. -/
theorem Port.Ok.refreshed {q : Port} {x : Option Stream} (h : q.Ok x) (d : Nat) : (q.refreshed d).Ok x := by
  refine .of_active rfl h.inbox h.replies h.notices ?_ h.minWords h.maxWords rfl
  by_cases ha : q.state = .active
  · exact h.attn_of_active ha
  · simp [Port.refreshed, h.attn_of_quiet ha, (h.quiet ha).attention]

/-- A full inbox takes no request (R203). -/
theorem Port.Ok.receiveRequest {q : Port} {x : Option Stream} (h : q.Ok x) (ha : q.state = .active) (r : Request) :
    (q.receiveRequest r).Ok x := by
  unfold Port.receiveRequest
  split
  · next hroom =>
    exact .of_active ha (by simpa using hroom) h.replies h.notices (h.attn_of_active ha) h.minWords h.maxWords
      (h.presence ha)
  · exact h.of_sameRole ⟨rfl, rfl, rfl, rfl, rfl, rfl, rfl, rfl, rfl, rfl⟩ (by rw [ha]; decide)

theorem Port.Ok.valid {q : Port} {x : Option Stream} (h : q.Ok x) (ho : q.state ≠ .offline) (f : RxFrame) (d : Nat) :
    (q.valid f d).Ok x := by
  have tracked : (q.track f.seq).Ok x := h.of_sameRole (q.track_sameRole f.seq) ho
  unfold Port.valid
  dsimp only
  split
  · exact tracked.of_sameRole ⟨rfl, rfl, rfl, rfl, rfl, rfl, rfl, rfl, rfl, rfl⟩
      (by rwa [(q.track_sameRole f.seq).state])
  · exact (tracked.refreshed d).receiveRequest rfl _

theorem clientFrame_keepsPorts (p : PortId) (bytes : List Byte) (s : State) :
    KeepsPorts s (clientFrame p bytes s) := by
  unfold clientFrame
  dsimp only
  split
  · exact .refl s
  · next ho =>
    generalize hs1 : (if (receive bytes).corrected = true then s.setPort p (s.port p).corrected else s) = s1
    have corrected : KeepsPorts s s1 := by
      subst hs1
      exact .ite (setPort_keepsPorts fun h => h.of_sameRole ⟨rfl, rfl, rfl, rfl, rfl, rfl, rfl, rfl, rfl, rfl⟩ ho)
        (.refl s)
    have ho1 : (s1.port p).state ≠ .offline := by
      subst hs1
      split
      · rw [State.port_setPort]; exact ho
      · exact ho
    split
    · exact (badClientFrame_keepsPorts _ ho1).after corrected
    · exact KeepsPorts.after (setPort_keepsPorts fun h => h.valid ho1 _ _) corrected

theorem takeAnswer_length {l rest : List ReplySlot} {a : Answer} (h : takeAnswer l = some (a, rest)) :
    l.length = rest.length + 1 := by
  induction l generalizing rest with
  | nil => cases h
  | cons x l ih =>
    cases x with
    | frame b => cases h; rfl
    | reserved =>
      simp only [takeAnswer, Option.map_eq_some_iff, Prod.mk.injEq] at h
      obtain ⟨⟨b, tail⟩, hb, rfl, rfl⟩ := h
      simp [ih hb]

theorem transmitStart_keepsPorts (p : PortId) (s : State) : KeepsPorts s (transmitStart p s) := by
  unfold transmitStart
  dsimp only
  split
  · next hready =>
    have ha := hready.1
    split
    · next a rest htake =>
      refine setPort_keepsPorts fun h => .of_active ha h.inbox ?_ h.notices (h.attn_of_active ha) h.minWords h.maxWords
        (h.presence ha)
      have := takeAnswer_length htake
      exact Nat.le_trans (by simp [Port.beginAnswer]; omega) h.replies
    · split
      · next n rest hn =>
        refine (streamBuild_reports p _).keepsPorts.after (setPort_keepsPorts fun h => .of_active ha h.inbox h.replies ?_
          (h.attn_of_active ha) h.minWords h.maxWords (h.presence ha))
        exact Nat.le_trans (by simp [Port.beginNotice, hn]) h.notices
      · exact .refl s
  · exact .refl s

theorem transmitEnd_keepsPorts (p : PortId) (s : State) : KeepsPorts s (transmitEnd p s) := by
  refine setPort_keepsPorts fun h => ?_
  by_cases ho : (s.port p).state = .offline
  · have hdown := h.down ho
    have hsame : ({ s.port p with sending := none } : Port) = s.port p := by rw [← hdown.sending]
    rwa [hsame]
  · exact h.of_sameRole ⟨rfl, rfl, rfl, rfl, rfl, rfl, rfl, rfl, rfl, rfl⟩ ho

end Sys2Proof.Machine
end

section
/-!
PROOFS. The requests, the resets and the commands keep the invariant of the client ports: SVC serves a port only in
ACTIVE, and no request makes a port ACTIVE or ends that (R202 to R214).
-/

namespace Sys2Proof.Machine

/-! ### Service (R203, R210, R211) -/

/-- The request that SVC takes is one of an ACTIVE port, whose queues have room (R203). -/
theorem serveWhen_portsInv {isKind : Byte → Bool} {p : PortId} {body : Request → State → State} {s : State}
    (hbody : ∀ r t, (t.port p).state = .active → KeepsPorts t (body r t)) (h : PortsInv s) :
    PortsInv (serveWhen isKind p body s) := by
  rcases serveWhen_cases isKind p body s with e | ⟨r, rest, hi, -, -, hroom, e⟩
  · rw [e]; exact h
  · have ha : (s.port p).state = .active := (h p).active_of_inbox (by simp [hi])
    have taken : KeepsPorts s (s.setPort p ((s.port p).taken rest)) := setPort_keepsPorts fun k =>
      .of_active ha (Nat.le_trans (by simp [Port.taken, hi]) k.inbox) (by simpa [Port.taken] using hroom) k.notices
        (k.attn_of_active ha) k.minWords k.maxWords (k.presence ha)
    rw [e]
    exact ((hbody r _ (by rw [State.port_setPort]; exact ha)).after taken).inv h

theorem serveKind_portsInv {k : RequestKind} {ok : Nat → Bool} {p : PortId} {body : Request → State → State}
    {s : State} (hbody : ∀ r t, (t.port p).state = .active → KeepsPorts t (body r t)) (h : PortsInv s) :
    PortsInv (serveKind k ok p body s) :=
  serveWhen_portsInv (fun r t ha => .ite (hbody r t ha) (refuse_keepsPorts _ _ _ _ _ t)) h

theorem serveHolder_portsInv {k : RequestKind} {ok : Nat → Bool} {p : PortId} {body : Request → State → State}
    {s : State} (hbody : ∀ r t, (t.port p).state = .active → KeepsPorts t (body r t)) (h : PortsInv s) :
    PortsInv (serveHolder k ok p body s) :=
  serveKind_portsInv (fun r t ha => .ite (hbody r t ha) (refuse_keepsPorts _ _ _ _ _ t)) h

/-! ### The bodies of the requests -/

section Bodies

variable (p : PortId) (r : Request) (s : State)

/-- The options that SET_LINK accepts let 12 to 255 words stand in a frame (R214). -/
theorem parseOptions_maxReplyWords {w : List Word} {o : LinkOptions} (h : parseOptions w = .ok o) :
    12 ≤ o.maxReplyWords ∧ o.maxReplyWords ≤ 255 := by
  unfold parseOptions at h
  dsimp only at h
  split at h
  · cases h
  · next hwords =>
    split at h
    · cases h
    · split at h
      · cases h
      · split at h
        · cases h
        · cases h; exact not_not.mp hwords

theorem setLinkBody_keepsPorts (ha : (s.port p).state = .active) : KeepsPorts s (setLinkBody p r s) := by
  unfold setLinkBody
  split
  · exact refuse_keepsPorts _ _ _ _ _ s
  · next o ho =>
    have replied : KeepsPorts s (reply p r.tag o.words (s.setPort p { s.port p with options := o })) :=
      (reply_keepsPorts p _ _ _).after (setPort_keepsPorts fun h => .of_active ha h.inbox h.replies h.notices
        (h.attn_of_active ha) (parseOptions_maxReplyWords ho).1 (parseOptions_maxReplyWords ho).2 (h.presence ha))
    exact .ite ((streamBuild_reports p _).keepsPorts.after replied) replied

theorem readStatusBody_keepsPorts (ha : (s.port p).state = .active) : KeepsPorts s (readStatusBody p r s) := by
  have emptied (w : List Word) : KeepsPorts s ((reply p r.tag w s).setPort p
      (((reply p r.tag w s).port p).withAttention 0#12)) :=
    KeepsPorts.after (setPort_keepsPorts fun h => h.withAttention
      (((reply_calm p r.tag w s).keeps.ports p).state.trans ha) 0#12) (reply_keepsPorts p r.tag w s)
  have counted (t : State) (n : Nat) : KeepsPorts t { t with freeCount := n } := .of_eq rfl rfl
  exact .ite (refuse_keepsPorts _ _ _ _ _ s) (.ite ((counted _ _).after (emptied _)) (emptied _))

theorem readTableBody_keepsPorts : KeepsPorts s (readTableBody p r s) := by
  unfold readTableBody; dsimp only
  split
  · exact reply_keepsPorts _ _ _ s
  · exact .ite (refuse_keepsPorts _ _ _ _ _ s) (reply_keepsPorts _ _ _ s)
  · exact reply_keepsPorts _ _ _ s
  · exact reply_keepsPorts _ _ _ s
  · exact refuse_keepsPorts _ _ _ _ _ s

theorem readPointsBody_keepsPorts : KeepsPorts s (readPointsBody p r s) := by
  refine .ite (refuse_keepsPorts _ _ _ _ _ s) ?_
  split
  · exact refuse_keepsPorts _ _ _ _ _ s
  · exact .ite (refuse_keepsPorts _ _ _ _ _ s) (.ite (refuse_keepsPorts _ _ _ _ _ s) (reply_keepsPorts _ _ _ s))

theorem streamPointsBody_keepsPorts (ha : (s.port p).state = .active) : KeepsPorts s (streamPointsBody p r s) := by
  have replaced := endStream_reports p .replaced s
  have begun (x : Option Stream) : KeepsPorts s (setStream p x (endStream p .replaced s)) :=
    KeepsPorts.after (setStream_keepsPorts (.inr fun _ => (replaced.port_keeps p).state.trans ha)) replaced.keepsPorts
  exact .ite (refuse_keepsPorts _ _ _ _ _ s) ((streamBuild_reports p _).keepsPorts.after
    ((runOverTest_reports p _).keepsPorts.after ((gapTest_reports p _).keepsPorts.after
      ((reply_keepsPorts _ _ _ _).after (begun _)))))

theorem stopStreamBody_keepsPorts : KeepsPorts s (stopStreamBody p r s) :=
  .ite ((reply_keepsPorts _ _ _ _).after (endStream_reports p _ s).keepsPorts) (reply_keepsPorts _ _ _ s)

theorem ackUrgentBody_keepsPorts : KeepsPorts s (ackUrgentBody p r s) := by
  have acknowledged (x : ExcRecord) : KeepsPorts s (acknowledge p x s) := Reports.keepsPorts (.offerAll _ _ _ rfl)
  unfold ackUrgentBody; dsimp only
  split
  · exact refuse_keepsPorts _ _ _ _ _ s
  · split
    · exact (reply_keepsPorts _ _ _ _).after (acknowledged _)
    · exact reply_keepsPorts _ _ _ s
    · exact reply_keepsPorts _ _ _ s

theorem claimBody_keepsPorts (ha : (s.port p).state = .active) : KeepsPorts s (claimBody p r s) := by
  unfold claimBody; dsimp only
  split
  · exact (reply_keepsPorts _ _ _ _).after (setHolder_keepsPorts _ _ s)
  · refine .ite (reply_keepsPorts _ _ _ s) ?_
    split
    · exact refuse_keepsPorts _ _ _ _ _ s
    · exact (beginService_keepsPorts (((offerTo_calm _ _ _).keeps.ports p).state.trans ha) _).after
        ((offerTo_keepsPorts _ _ _).after (.of_eq rfl rfl))

theorem yieldBody_keepsPorts : KeepsPorts s (yieldBody p r s) := by
  refine .ite (refuse_keepsPorts _ _ _ _ _ s) ?_
  split
  · exact refuse_keepsPorts _ _ _ _ _ s
  · exact (reply_keepsPorts _ _ _ _).after (passTo_keepsPorts _ _ s)

theorem keepBody_keepsPorts : KeepsPorts s (keepBody p r s) := by
  refine .ite (refuse_keepsPorts _ _ _ _ _ s) ?_
  split
  · exact refuse_keepsPorts _ _ _ _ _ s
  · exact (reply_keepsPorts _ _ _ _).after ((refuseClaim_keepsPorts _ _ _).after (clearClaim_keepsPorts s))

theorem releaseBody_keepsPorts : KeepsPorts s (releaseBody p r s) := by
  refine .ite (refuse_keepsPorts _ _ _ _ _ s) ?_
  split
  · exact (reply_keepsPorts _ _ _ _).after (setHolder_keepsPorts _ _ s)
  · exact (reply_keepsPorts _ _ _ _).after (passTo_keepsPorts _ _ s)

/-- A REPLY on a part that has the links of `s`. -/
theorem reply_keepsPorts_of_links {t : State} (h : t.links = s.links) (w : List Word) :
    KeepsPorts s (reply p r.tag w t) := (reply_keepsPorts _ _ _ t).after (Reports.still h).keepsPorts

theorem loadSettingsBody_keepsPorts : KeepsPorts s (loadSettingsBody p r s) := by
  refine .ite (refuse_keepsPorts _ _ _ _ _ s) ?_
  dsimp only
  split
  · exact refuse_keepsPorts _ _ _ _ _ s
  · exact (reply_keepsPorts _ _ _ _).after ((takeDueEdges_reports _).keepsPorts.after (.of_eq rfl rfl))

theorem loadThresholdsBody_keepsPorts : KeepsPorts s (loadThresholdsBody p r s) := by
  refine .ite (refuse_keepsPorts _ _ _ _ _ s) (.ite (refuse_keepsPorts _ _ _ _ _ s) ?_)
  split
  · exact refuse_keepsPorts _ _ _ _ _ s
  · exact reply_keepsPorts_of_links p r s rfl _

theorem sectionPutBody_keepsPorts : KeepsPorts s (sectionPutBody p r s) := by
  unfold sectionPutBody
  split
  · exact refuse_keepsPorts _ _ _ _ _ s
  · split
    · exact refuse_keepsPorts _ _ _ _ _ s
    · exact reply_keepsPorts_of_links p r s rfl _

theorem sectionDropBody_keepsPorts : KeepsPorts s (sectionDropBody p r s) := by
  unfold sectionDropBody; dsimp only
  split
  · exact refuse_keepsPorts _ _ _ _ _ s
  · exact .ite (reply_keepsPorts_of_links p r s rfl _) (refuse_keepsPorts _ _ _ _ _ s)

theorem sectionClearBody_keepsPorts : KeepsPorts s (sectionClearBody p r s) :=
  .ite (reply_keepsPorts_of_links p r s rfl _) (refuse_keepsPorts _ _ _ _ _ s)

theorem markerPutBody_keepsPorts : KeepsPorts s (markerPutBody p r s) :=
  .ite (refuse_keepsPorts _ _ _ _ _ s) (reply_keepsPorts_of_links p r s rfl _)

theorem markerDropBody_keepsPorts : KeepsPorts s (markerDropBody p r s) :=
  .ite (reply_keepsPorts_of_links p r s rfl _) (refuse_keepsPorts _ _ _ _ _ s)

theorem markerClearBody_keepsPorts : KeepsPorts s (markerClearBody p r s) :=
  .ite (reply_keepsPorts_of_links p r s rfl _) (refuse_keepsPorts _ _ _ _ _ s)

theorem manualFixBody_keepsPorts : KeepsPorts s (manualFixBody p r s) := by
  have told (ps : Pos) (e d : Int) (t : Nat) : KeepsPorts s (locationNotice .rebase none e d t { s with pos := ps }) :=
    Reports.keepsPorts (.offerAll _ _ _ rfl)
  exact .ite (refuse_keepsPorts _ _ _ _ _ s)
    (.ite ((reply_keepsPorts _ _ _ _).after (told _ _ _ _)) (refuse_keepsPorts _ _ _ _ _ s))

/-! ### Runs and resets (R177, R179, R183) -/

theorem prepareRun_reports (x : RunRecord) : Reports s (prepareRun x s) :=
  (endAllStreams_reports .newRun s).trans (.still rfl)

theorem beginRun_reports : Reports s (beginRun s) := (createPoint_reports _ _ _ _).after (.still rfl)

/-- A run starts: the streams end, point 0 is created, and the ports are told (R177). -/
theorem startedRun_reports (x : RunRecord) : Reports s (runNotice .started (beginRun (prepareRun x s))) := by
  have told (t : State) : Reports t (runNotice .started t) := .offerAll _ _ _ rfl
  exact (told _).after ((beginRun_reports _).after (prepareRun_reports s x))

theorem startRunBody_keepsPorts : KeepsPorts s (startRunBody p r s) :=
  .ite (refuse_keepsPorts _ _ _ _ _ s) (.ite (refuse_keepsPorts _ _ _ _ _ s) (.ite (refuse_keepsPorts _ _ _ _ _ s)
    ((reply_keepsPorts _ _ _ _).after (startedRun_reports s _).keepsPorts)))

theorem endRunBody_keepsPorts (ha : (s.port p).state = .active) : KeepsPorts s (endRunBody p r s) := by
  have waiting (u : Run) : KeepsPorts s (setInService p (some (.endRun r.tag)) { s with run := u }) :=
    (beginService_keepsPorts (s := { s with run := u }) ha _).after (.of_eq rfl rfl)
  exact .ite (refuse_keepsPorts _ _ _ _ _ s) ((finishTest_reports _).keepsPorts.after (waiting _))

theorem refuseClaimant_keepsPorts : KeepsPorts s (refuseClaimant s) := by
  unfold refuseClaimant; split
  · exact refuseClaim_keepsPorts _ _ s
  · exact .refl s

theorem refusePendingEnd_keepsPorts : KeepsPorts s (refusePendingEnd s) := by
  unfold refusePendingEnd; split
  · exact KeepsPorts.after (.of_eq rfl rfl) ((endService_keepsPorts _ _).after (refuse_keepsPorts _ _ _ _ _ s))
  · exact .refl s

/-- The notice queues are flushed (R183). -/
theorem flush_keepsPorts : KeepsPorts s (s.mapPorts fun q => { q with notices := [] }) := by
  intro j h
  rw [State.port_mapPorts, State.mapPorts_stream]
  by_cases ha : (s.port j).state = .active
  · exact .of_active ha h.inbox h.replies (Nat.zero_le _) (h.attn_of_active ha) h.minWords h.maxWords (h.presence ha)
  · have hsame : ({ s.port j with notices := [] } : Port) = s.port j := by rw [← (h.quiet ha).notices]
    rwa [hsame]

theorem resetNotices_keepsPorts (w c : Option Nat) : KeepsPorts s (resetNotices w c s) := by
  have told (t : State) : KeepsPorts t (offerAll everyPort .run (runWords .reset w c t) t) := offerAll_keepsPorts _ _ _ t
  have flushed := (told _).after ((endAllStreams_reports .reset _).keepsPorts.after (flush_keepsPorts s))
  exact .ite ((setHolder_keepsPorts _ _ _).after flushed) ((clearClaim_keepsPorts _).after flushed)

theorem resetPartBody_keepsPorts : KeepsPorts s (resetPartBody p r s) := by
  have parted : KeepsPorts s (partBlocks s) := .of_eq rfl rfl
  exact (reply_keepsPorts _ _ _ _).after ((resetNotices_keepsPorts _ _ _).after ((refusePendingEnd_keepsPorts _).after
    ((refuseClaimant_keepsPorts _).after parted)))

theorem hardReset_portsInv : PortsInv (hardReset s) := portsInv_reset

end Bodies

/-! ### Commands and steps -/

/-- Every command keeps the invariant of the ports. -/
theorem next_portsInv (c : Instr) {s : State} (h : PortsInv s) : PortsInv (s.next c) := by
  cases c with
  | powerOn => exact hardReset_portsInv s
  | resetn => exact hardReset_portsInv s
  | timebaseWrap =>
    show PortsInv (if timebaseEnd ≤ s.now then hardReset s else s)
    split
    · exact hardReset_portsInv s
    · exact h
  | tachRawChange l level => exact (rawChange_reports l level s).keepsPorts.inv h
  | tachEdgeValidated l => exact (takeEdge_reports l s).keepsPorts.inv h
  | spacingPulseStart => exact (spacingStart_reports s).keepsPorts.inv h
  | spacingPulseEnd => exact (spacingEnd_reports s).keepsPorts.inv h
  | sensorFrameArrival c bytes => exact (sensorFrame_reports c bytes s).keepsPorts.inv h
  | sensorLinkDown c => exact (sensorLinkDown_reports c s).keepsPorts.inv h
  | sensorLinkUp c => exact h
  | sourceStaleDeadline c => exact (staleDeadline_reports c s).keepsPorts.inv h
  | alignDeadline => exact (alignDeadline_reports s).keepsPorts.inv h
  | clientFrameArrival p bytes => exact (clientFrame_keepsPorts p bytes s).inv h
  | clientLinkDown p => exact (clientLinkDown_keepsPorts p s).inv h
  | clientLinkUp p => exact (clientLinkUp_keepsPorts p s).inv h
  | presenceDeadline p => exact (presenceDeadline_keepsPorts p s).inv h
  | transmitFrameStart p => exact (transmitStart_keepsPorts p s).inv h
  | transmitFrameEnd p => exact (transmitEnd_keepsPorts p s).inv h
  | yieldDeadline => exact (yieldDeadline_keepsPorts s).inv h
  | presence p => exact serveKind_portsInv (fun _ t _ => releaseReservation_keepsPorts p t) h
  | echo p => exact serveKind_portsInv (fun _ t _ => reply_keepsPorts p _ _ t) h
  | identify p => exact serveKind_portsInv (fun _ t _ => reply_keepsPorts p _ _ t) h
  | setLink p => exact serveKind_portsInv (setLinkBody_keepsPorts p) h
  | readStatus p => exact serveKind_portsInv (readStatusBody_keepsPorts p) h
  | readTable p => exact serveKind_portsInv (fun r t _ => readTableBody_keepsPorts p r t) h
  | readPoints p => exact serveKind_portsInv (fun r t _ => readPointsBody_keepsPorts p r t) h
  | streamPoints p => exact serveKind_portsInv (streamPointsBody_keepsPorts p) h
  | stopStream p => exact serveKind_portsInv (fun r t _ => stopStreamBody_keepsPorts p r t) h
  | readExceedances p => exact serveKind_portsInv (fun _ t _ => reply_keepsPorts p _ _ t) h
  | ackUrgent p => exact serveKind_portsInv (fun r t _ => ackUrgentBody_keepsPorts p r t) h
  | claim p => exact serveKind_portsInv (claimBody_keepsPorts p) h
  | yield p => exact serveKind_portsInv (fun r t _ => yieldBody_keepsPorts p r t) h
  | keep p => exact serveKind_portsInv (fun r t _ => keepBody_keepsPorts p r t) h
  | release p => exact serveKind_portsInv (fun r t _ => releaseBody_keepsPorts p r t) h
  | rejoin p => exact serveKind_portsInv (fun _ t _ => reply_keepsPorts p _ _ t) h
  | loadSettings p => exact serveHolder_portsInv (fun r t _ => loadSettingsBody_keepsPorts p r t) h
  | loadThresholds p => exact serveHolder_portsInv (fun r t _ => loadThresholdsBody_keepsPorts p r t) h
  | sectionPut p => exact serveHolder_portsInv (fun r t _ => sectionPutBody_keepsPorts p r t) h
  | sectionDrop p => exact serveHolder_portsInv (fun r t _ => sectionDropBody_keepsPorts p r t) h
  | sectionClear p => exact serveHolder_portsInv (fun r t _ => sectionClearBody_keepsPorts p r t) h
  | markerPut p => exact serveHolder_portsInv (fun r t _ => markerPutBody_keepsPorts p r t) h
  | markerDrop p => exact serveHolder_portsInv (fun r t _ => markerDropBody_keepsPorts p r t) h
  | markerClear p => exact serveHolder_portsInv (fun r t _ => markerClearBody_keepsPorts p r t) h
  | startRun p => exact serveHolder_portsInv (fun r t _ => startRunBody_keepsPorts p r t) h
  | endRun p => exact serveHolder_portsInv (endRunBody_keepsPorts p) h
  | manualFix p => exact serveHolder_portsInv (fun r t _ => manualFixBody_keepsPorts p r t) h
  | resetPart p => exact serveHolder_portsInv (fun r t _ => resetPartBody_keepsPorts p r t) h
  | unknownKindRequest p => exact serveWhen_portsInv (fun _ t _ => refuse_keepsPorts p _ _ _ _ t) h

/-- What every command keeps, and every event of the measurement chain, is kept by the events that an idle step takes. -/
theorem takeDue_keeps {P : State → Prop} (hreports : ∀ {s t}, Reports s t → P s → P t)
    (hnext : ∀ c ∈ laterEvents, ∀ s, P s → P (s.next c)) {s : State} (h : P s) : P (takeDue s) := by
  have later (l : List Instr) (hl : ∀ c ∈ l, c ∈ laterEvents) (t : State) (ht : P t) : P (l.foldl State.next t) := by
    induction l generalizing t with
    | nil => exact ht
    | cons c l ih =>
      exact ih (fun d hd => hl d (List.mem_cons_of_mem c hd)) _ (hnext c (hl c List.mem_cons_self) t ht)
  rw [takeDue_eq]
  exact hreports (spacingStart_reports _) (later _ (fun _ => id) _ (hreports (takeDueEdges_reports s) h))

/-- Settles O54: each command by the lemma on its own events, the idle step as the commands whose events it takes. -/
theorem stepsKeepThePorts : Obligations.StepsKeepThePorts := by
  intro s t h hstep
  unfold step at hstep
  split at hstep
  · next c rest _ =>
    rw [exec_next] at hstep
    cases hstep
    exact next_portsInv (s := { s with pending := rest }) c h
  · cases hstep
    unfold tick
    split
    · exact hardReset_portsInv s
    · exact takeDue_keeps (fun k => k.keepsPorts.inv) (fun c _ _ => next_portsInv c) h

end Sys2Proof.Machine
end

section
/-!
PROOFS. What the operations on the ports do to the requests in service (R204, R210, R217). While SVC carries out a request,
its port has a slot reserved with no request in service, so the invariant is stated with the port being served, and with
the END_RUN and the CLAIM that the ports have in service, which RUN and SVC may be about to answer.
-/

namespace Sys2Proof.Machine

/-! ### One port -/

/-- The requests in service at port `p`, where SVC is serving `o`, RUN waits to answer the END_RUN `e` and SVC the CLAIM
of `c`. -/
structure Port.Waits (p : PortId) (o : Option PortId) (e : Option (PortId × Byte)) (c : Option PortId) (q : Port) :
    Prop where
  reserved : reservedSlots q.replies = if q.inService = none ∧ o ≠ some p then 0 else 1
  served : o = some p → q.inService = none ∧ q.state = .active
  endRun : ∀ tag, q.inService = some (.endRun tag) ↔ e = some (p, tag)
  claim : (∃ tag, q.inService = some (.claim tag)) ↔ c = some p
  quiet : q.state ≠ .active → q.inbox = [] ∧ q.inService = none

section

variable {p : PortId} {o o' c c' : Option PortId} {e e' : Option (PortId × Byte)} {q r : Port}

/-- The port of a request in service is ACTIVE (R201). -/
theorem Port.Waits.active (h : q.Waits p o e c) (hv : q.inService ≠ none) : q.state = .active :=
  Decidable.byContradiction fun hs => hv (h.quiet hs).2

/-- A change of the port that leaves its request in service, its reservations and, in ACTIVE, its state. -/
theorem Port.Waits.congr (h : q.Waits p o e c) (hservice : r.inService = q.inService)
    (hreplies : reservedSlots r.replies = reservedSlots q.replies) (hstate : q.state = .active → r.state = .active)
    (hinbox : r.state ≠ .active → r.inbox = []) : r.Waits p o e c where
  reserved := by rw [hreplies, hservice]; exact h.reserved
  served ho := ⟨hservice.trans (h.served ho).1, hstate (h.served ho).2⟩
  endRun tag := by rw [hservice]; exact h.endRun tag
  claim := by rw [hservice]; exact h.claim
  quiet hs := ⟨hinbox hs, hservice.trans (h.quiet fun ha => hs (hstate ha)).2⟩

theorem Port.Waits.offer (h : q.Waits p o e c) (n : Notice) : (q.offer n).Waits p o e c := by
  have hkeep := Port.offer_keeps q n
  exact h.congr (Port.offer_inService q n) (by rw [Port.offer_replies]) (fun ha => hkeep.state.trans ha)
    fun hs => (Port.offer_inbox q n).trans (h.quiet (by rwa [hkeep.state] at hs)).1

/-- A service that begins or ends at another port. -/
theorem Port.Waits.elsewhere (h : q.Waits p o e c) (ho : o' = some p ↔ o = some p)
    (he : ∀ tag, e' = some (p, tag) ↔ e = some (p, tag)) (hc : c' = some p ↔ c = some p) : q.Waits p o' e' c' where
  reserved := by rw [h.reserved]; simp only [ne_eq, ho]
  served k := h.served (ho.mp k)
  endRun tag := (h.endRun tag).trans (he tag).symm
  claim := h.claim.trans hc.symm
  quiet := h.quiet

/-- The request that SVC serves is answered, or its reservation released (R204). -/
theorem Port.Waits.answered (h : q.Waits p (some p) e c) {l : List ReplySlot}
    (hl : reservedSlots l = reservedSlots q.replies - 1) : ({ q with replies := l } : Port).Waits p none e c where
  reserved := by rw [hl, h.reserved]; simp [(h.served rfl).1]
  served := nofun
  endRun := h.endRun
  claim := h.claim
  quiet := h.quiet

/-- A CLAIM stays in service, with its reservation (R210, R218). -/
theorem Port.Waits.beginClaim (h : q.Waits p (some p) e c) (tag : Byte) :
    ({ q with inService := some (.claim tag) } : Port).Waits p none e (some p) where
  reserved := by rw [h.reserved]; simp
  served := nofun
  endRun tag' := ⟨nofun, fun k => by have := (h.endRun tag').mpr k; rw [(h.served rfl).1] at this; cases this⟩
  claim := ⟨fun _ => rfl, fun _ => ⟨tag, rfl⟩⟩
  quiet hs := absurd (h.served rfl).2 hs

/-- An END_RUN stays in service, with its reservation (R179, R210). -/
theorem Port.Waits.beginEndRun (h : q.Waits p (some p) e c) (tag : Byte) :
    ({ q with inService := some (.endRun tag) } : Port).Waits p none (some (p, tag)) c where
  reserved := by rw [h.reserved]; simp
  served := nofun
  endRun tag' := by simp
  claim := ⟨nofun, fun k => by obtain ⟨_, this⟩ := h.claim.mpr k; rw [(h.served rfl).1] at this; cases this⟩
  quiet hs := absurd (h.served rfl).2 hs

/-- A request in service is answered and no longer in service (R210). -/
theorem Port.Waits.endService (h : q.Waits p o e c) (hv : q.inService ≠ none) (a : Answer)
    (he : ∀ tag, e' ≠ some (p, tag)) (hc : c' ≠ some p) :
    ({ q with inService := none, replies := fillReserved a q.replies } : Port).Waits p o e' c' where
  reserved := by
    have ho : o ≠ some p := fun ho => hv (h.served ho).1
    rw [reservedSlots_fillReserved, h.reserved]; simp [hv, ho]
  served ho := absurd (h.served ho).1 hv
  endRun tag := iff_of_false nofun (he tag)
  claim := iff_of_false nofun hc
  quiet hs := absurd (h.active hv) hs

/-- A port that is not ACTIVE waits for nothing (R201). -/
theorem Port.Waits.of_left (hleft : q.left q.state = q) (he : ∀ tag, e ≠ some (p, tag)) (hc : c ≠ some p) :
    q.Waits p none e c where
  reserved := by rw [← hleft]; rfl
  served := nofun
  endRun tag := by rw [← hleft]; exact iff_of_false nofun (he tag)
  claim := by rw [← hleft]; exact iff_of_false nofun hc
  quiet _ := by rw [← hleft]; exact ⟨rfl, rfl⟩

end

/-! ### All ports -/

/-- The requests in service at every port. -/
def State.Waits (o : Option PortId) (e : Option (PortId × Byte)) (c : Option PortId) (s : State) : Prop :=
  ∀ p, (s.port p).Waits p o e c

/-- The invariant of the requests in service and of authority, while SVC serves `o`. -/
structure Serving (o : Option PortId) (s : State) : Prop where
  waits : s.Waits o s.run.pendingEnd s.svc.claimant
  holder : ∀ p, s.svc.holder = some p → (s.port p).state = .active
  claimant : ∀ p, s.svc.claimant = some p → s.svc.holder ≠ some p ∧ s.svc.holder ≠ none
  deadline : s.svc.yieldAt.isSome = s.svc.claimant.isSome

section

variable {p q : PortId} {o o' c c' : Option PortId} {e e' : Option (PortId × Byte)} {s t : State}

/-- Between requests SVC serves no port. -/
theorem serving_none_iff : Serving none s ↔ ServiceInv s := by
  constructor
  · intro h
    refine ⟨fun p => ?_, fun p => (h.waits p).endRun, fun p => (h.waits p).claim, fun p => (h.waits p).quiet, h.holder,
      h.claimant, h.deadline⟩
    simpa using (h.waits p).reserved
  · intro h
    exact ⟨fun p => ⟨by simpa using h.reserved p, nofun, h.endRun p, h.claim p, h.quiet p⟩, h.holder, h.claimant,
      h.deadline⟩

/-- One port is replaced, at which alone a service begins or ends. -/
theorem State.Waits.setPort (h : s.Waits o e c) {x : Port} (hx : x.Waits p o' e' c')
    (ho : ∀ j, j ≠ p → (o' = some j ↔ o = some j)) (he : ∀ j, j ≠ p → ∀ tag, e' = some (j, tag) ↔ e = some (j, tag))
    (hc : ∀ j, j ≠ p → (c' = some j ↔ c = some j)) : (s.setPort p x).Waits o' e' c' := by
  intro j
  rw [State.port_setPort_ite]
  split
  · next hj => exact hj ▸ hx
  · next hj => exact (h j).elsewhere (ho j hj) (he j hj) (hc j hj)

theorem State.Waits.of_ports (h : s.Waits o e c) (hp : t.ports = s.ports) : t.Waits o e c := by
  intro j
  rw [State.port, hp]
  exact h j

theorem State.Waits.told (h : s.Waits o e c) (sel : Port → Bool) (cls : NoticeClass) (w : List Word) :
    (offerAll sel cls w s).Waits o e c := by
  intro j
  rw [port_offerAll]
  split
  · exact (h j).offer _
  · exact h j

/-- A port is replaced by one with the same request in service. -/
theorem State.Waits.setPort_congr (h : s.Waits o e c) {x : Port} (hx : (s.port p).Waits p o e c → x.Waits p o e c) :
    (s.setPort p x).Waits o e c :=
  h.setPort (hx (h p)) (fun _ _ => .rfl) (fun _ _ _ => .rfl) (fun _ _ => .rfl)

/-- The request of the port served is answered (R204). -/
theorem State.Waits.answered (h : s.Waits (some p) e c) (a : Answer) : (answer p a s).Waits none e c :=
  h.setPort ((h p).answered (reservedSlots_fillReserved a _)) (fun j hj => by simp [Ne.symm hj]) (fun _ _ _ => .rfl)
    (fun _ _ => .rfl)

/-- A CLAIM in service is answered (R218). -/
theorem State.Waits.claimAnswered (h : s.Waits o e (some q)) (a : Byte → Answer) :
    (answerClaim q (fun tag => answer q (a tag)) s).Waits o e none := by
  obtain ⟨tag, htag⟩ := (h q).claim.mpr rfl
  have hend : ∀ tag', e ≠ some (q, tag') := fun tag' k => by
    have := htag.symm.trans (((h q).endRun tag').mpr k); cases this
  have heq : answerClaim q (fun tag => answer q (a tag)) s = s.setPort q { s.port q with
      inService := none, replies := fillReserved (a tag) (s.port q).replies } := by
    simp [answerClaim, htag, answer, setInService]
  rw [heq]
  exact h.setPort ((h q).endService (by simp [htag]) (a tag) hend nofun) (fun _ _ => .rfl) (fun _ _ _ => .rfl)
    (fun j hj => by simp [Ne.symm hj])

/-- The END_RUN in service is answered (R181, R182). -/
theorem State.Waits.endAnswered {tag : Byte} (h : s.Waits o (some (p, tag)) c) (a : Answer) :
    (setInService p none (answer p a s)).Waits o none c := by
  have htag := ((h p).endRun tag).mpr rfl
  have hclaim : c ≠ some p := fun k => by
    obtain ⟨_, this⟩ := (h p).claim.mpr k
    have := htag.symm.trans this; cases this
  have heq : setInService p none (answer p a s) = s.setPort p { s.port p with
      inService := none, replies := fillReserved a (s.port p).replies } := by
    simp [answer, setInService]
  rw [heq]
  exact h.setPort ((h p).endService (by simp [htag]) a nofun hclaim) (fun _ _ => .rfl)
    (fun j hj tag => by simp [Ne.symm hj]) (fun _ _ => .rfl)

/-! ### What keeps the invariant -/

/-- The invariant looks at the ports, at authority and at the pending END_RUN alone. -/
theorem Serving.of_eq (h : Serving o s) (hp : t.ports = s.ports) (hv : t.svc = s.svc)
    (he : t.run.pendingEnd = s.run.pendingEnd) : Serving o t where
  waits := by rw [he, hv]; exact h.waits.of_ports hp
  holder p k := by rw [State.port, hp]; exact h.holder p (hv ▸ k)
  claimant p k := by rw [hv] at k ⊢; exact h.claimant p k
  deadline := by rw [hv]; exact h.deadline

/-- Another service at the ports, where no port leaves ACTIVE and authority is as it was. -/
theorem Serving.of_waits (h : Serving o s) (hw : t.Waits o' t.run.pendingEnd s.svc.claimant) (hv : t.svc = s.svc)
    (hs : ∀ j, (s.port j).state = .active → (t.port j).state = .active) : Serving o' t where
  waits := hv ▸ hw
  holder p k := hs p (h.holder p (hv ▸ k))
  claimant p k := by rw [hv] at k ⊢; exact h.claimant p k
  deadline := by rw [hv]; exact h.deadline

theorem setPort_active {x : Port} (hx : (s.port p).state = .active → x.state = .active) (j : PortId)
    (h : (s.port j).state = .active) : ((s.setPort p x).port j).state = .active := by
  rw [State.port_setPort_ite]
  split
  · next e => exact hx (e ▸ h)
  · exact h

/-- A port that keeps its request in service, its reservations and, in ACTIVE, its state. -/
theorem Serving.setPort (h : Serving o s) {x : Port} (hservice : x.inService = (s.port p).inService)
    (hreplies : reservedSlots x.replies = reservedSlots (s.port p).replies)
    (hstate : (s.port p).state = .active → x.state = .active) (hinbox : x.state ≠ .active → x.inbox = []) :
    Serving o (s.setPort p x) :=
  h.of_waits (h.waits.setPort_congr fun k => k.congr hservice hreplies hstate hinbox) rfl (setPort_active hstate)

theorem Serving.answered (h : Serving (some p) s) {a : Answer} : Serving none (answer p a s) :=
  h.of_waits (h.waits.answered a) rfl (setPort_active id)

theorem Serving.replied (h : Serving (some p) s) {tag : Byte} {w : List Word} : Serving none (reply p tag w s) :=
  h.answered

theorem Serving.refused (h : Serving (some p) s) {k tag : Byte} {why : Reason} {n : Nat} :
    Serving none (refuse p k tag why n s) := h.answered

theorem Serving.toldOne (h : Serving o s) (j : PortId) (n : Notice) : Serving o (offerTo j n s) :=
  h.of_waits (h.waits.setPort_congr fun k => k.offer n) rfl
    (setPort_active fun ha => (Port.offer_keeps _ n).state.trans ha)

theorem Serving.toldAll (h : Serving o s) (sel : Port → Bool) (cls : NoticeClass) (w : List Word) :
    Serving o (offerAll sel cls w s) :=
  h.of_waits (h.waits.told sel cls w) rfl fun j ha => ((offerAll_calm sel cls w s).keeps.ports j).state.trans ha

/-- The pending END_RUN is answered at the end of its run (R181). -/
theorem Serving.endRunAnswered (h : Serving o s) : Serving o (answerEndRun s) := by
  unfold answerEndRun
  split
  · next x tag hpend =>
    have waits := h.waits
    rw [hpend] at waits
    have answered (a : Answer) : Serving o { setInService x none (answer x a s) with
        run := { (setInService x none (answer x a s)).run with pendingEnd := none } } :=
      h.of_waits ((waits.endAnswered a).of_ports rfl) rfl fun j ha =>
        (((answer_calm x a s).trans (setInService_calm x none _)).keeps.ports j).state.trans ha
    exact answered _
  · exact h

/-- The events of the measurement chain. -/
theorem Reports.serving (k : Reports s t) (h : Serving o s) : Serving o t := by
  induction k with
  | still k => exact h.of_eq (State.links_eq k).1 (State.links_eq k).2.2.1 (State.links_eq k).2.2.2
  | offerTo p n s => exact h.toldOne p n
  | offerAll sel c w k =>
    exact (h.of_eq (State.links_eq k).1 (State.links_eq k).2.2.1 (State.links_eq k).2.2.2).toldAll sel c w
  | setStream => exact h.of_eq rfl rfl rfl
  | answerEndRun s => exact h.endRunAnswered
  | trans _ _ ih ih' => exact ih' (ih h)

/-! ### Authority (R217 to R220) -/

/-- The claimant is an ACTIVE port other than the one that SVC serves (R217). -/
theorem Serving.claimant_active (h : Serving o s) (hq : s.svc.claimant = some q) : (s.port q).state = .active := by
  obtain ⟨tag, htag⟩ := (h.waits q).claim.mpr hq
  exact (h.waits q).active (by simp [htag])

/-- No port holds, or an ACTIVE port, and no claim is pending. -/
theorem Serving.of_unclaimed (hw : t.Waits o t.run.pendingEnd none) {h : Option PortId}
    (hv : t.svc = { holder := h, claimant := none, yieldAt := none }) (hh : ∀ p, h = some p → (t.port p).state = .active) :
    Serving o t where
  waits := by rw [hv]; exact hw
  holder p k := hh p (by rw [hv] at k; exact k)
  claimant p k := by rw [hv] at k; cases k
  deadline := by rw [hv]; rfl

/-- No claim is pending, and a port or none becomes the holder (R217). -/
theorem Serving.held (k : Serving o s) (hc : s.svc.claimant = none) {h : Option PortId} (cause : AuthCause)
    (hh : ∀ p, h = some p → (s.port p).state = .active) : Serving o (setHolder h cause s) := by
  have waits := k.waits
  rw [hc] at waits
  refine .of_unclaimed (State.Waits.told (waits.of_ports rfl) _ _ _) rfl fun p e => ?_
  rw [setHolder_port, (Port.offer_keeps _ _).state]
  exact hh p e

/-- The claimant becomes the holder, and its CLAIM is granted (R219, R220). -/
theorem Serving.passed (h : Serving o s) (hq : s.svc.claimant = some q) (cause : AuthCause) :
    Serving o (passTo q cause s) := by
  have waits := h.waits
  rw [hq] at waits
  have told : (setHolder (some q) cause s).Waits o s.run.pendingEnd (some q) :=
    State.Waits.told (waits.of_ports rfl) _ _ _
  refine .of_unclaimed (h := some q) ?_ ?_ fun p e => ?_
  · rw [passTo_frame]
    exact (told.claimAnswered fun tag => { kind := .reply, tag, rest := [wordOfNat q.code] }).of_ports rfl
  · rw [passTo_frame]
  · obtain rfl := Option.some.inj e
    rw [((passTo_links q cause s).2.2 q).state]
    exact h.claimant_active hq

/-- The CLAIM of the claimant is refused, and the holder keeps authority (R219). -/
theorem Serving.claimRefused (h : Serving o s) (hq : s.svc.claimant = some q) (why : Reason) :
    Serving o (refuseClaim q why (clearClaim s)) := by
  have waits := h.waits
  rw [hq] at waits
  have frame : refuseClaim q why (clearClaim s) = { clearClaim s with
      ports := (refuseClaim q why (clearClaim s)).ports } := by
    unfold refuseClaim answerClaim
    split <;> rfl
  have keeps (j : PortId) : PortKeeps (s.port j) ((refuseClaim q why (clearClaim s)).port j) := by
    unfold refuseClaim answerClaim
    split
    · exact (((refuse_calm _ _ _ _ _ (clearClaim s)).trans (setInService_calm _ _ _)).keeps.ports j)
    · exact .refl _
  refine .of_unclaimed (h := s.svc.holder) ?_ (by rw [frame]; rfl) fun p k => ?_
  · rw [frame]
    exact ((waits.of_ports (t := clearClaim s) rfl).claimAnswered fun tag => { kind := .refuse, tag, rest :=
      [wordOfNat why.code, wordOfNat 0, RequestKind.claim.code.setWidth 32] }).of_ports rfl
  · rw [(keeps p).state]
    exact h.holder p k

end

end Sys2Proof.Machine
end

section
/-!
PROOFS. Every step keeps the requests in service and authority consistent (R203, R204, R210, R217): a port that leaves
ACTIVE, the events of the links, the requests and the resets, and the commands.
-/

namespace Sys2Proof.Machine

/-! ### A port leaves ACTIVE (R182, R201, R220) -/

section

variable {p q : PortId} {s : State} {x : Port}

/-- What the other ports wait for, and authority, after a port has given up what it had from the part. -/
structure State.Relinquishes (p : PortId) (s t : State) : Prop where
  waits : ∀ j, j ≠ p → (t.port j).Waits j none t.run.pendingEnd t.svc.claimant
  state : ∀ j, j ≠ p → (t.port j).state = (s.port j).state
  holder : ∀ j, t.svc.holder = some j → j ≠ p ∧ (s.port j).state = .active
  claimant : ∀ j, t.svc.claimant = some j → j ≠ p ∧ t.svc.holder ≠ some j ∧ t.svc.holder ≠ none
  deadline : t.svc.yieldAt.isSome = t.svc.claimant.isSome
  endRun : ∀ tag, t.run.pendingEnd ≠ some (p, tag)

/-- No END_RUN is pending for the port that has left; those of the others still are (R182). -/
theorem relinquished_endRun_iff {j : PortId} {tag : Byte} :
    (s.relinquished p).run.pendingEnd = some (j, tag) ↔ j ≠ p ∧ s.run.pendingEnd = some (j, tag) := by
  by_cases hown : ∃ tag, s.run.pendingEnd = some (p, tag)
  · obtain ⟨tag', h⟩ := hown
    rw [relinquished_pendingEnd_own h, h]
    exact iff_of_false nofun fun ⟨hj, k⟩ => hj (by cases k; rfl)
  · rw [relinquished_pendingEnd_other fun tag k => hown ⟨tag, k⟩]
    exact ⟨fun k => ⟨fun e => hown ⟨tag, e ▸ k⟩, k⟩, fun k => k.2⟩

/-- The four cases of authority, from a part between requests: the port holds without a claim, holds with a claim
pending, claims, or has nothing to do with it (R201, R220). -/
theorem relinquished_relinquishes (h : Serving none s) : s.Relinquishes p (s.relinquished p) := by
  have kept {j : PortId} (hj : j ≠ p) {c : Option PortId} (hc : c = some j ↔ s.svc.claimant = some j) :
      (s.port j).Waits j none (s.relinquished p).run.pendingEnd c :=
    (h.waits j).elsewhere .rfl (fun tag => relinquished_endRun_iff.trans (and_iff_right hj)) hc
  have noEnd : ∀ tag, (s.relinquished p).run.pendingEnd ≠ some (p, tag) := fun tag k =>
    (relinquished_endRun_iff.mp k).1 rfl
  by_cases hh : s.svc.holder = some p
  · cases hc : s.svc.claimant with
    | none =>
      obtain ⟨hsvc, hport⟩ := relinquished_of_holder hh hc
      refine ⟨fun j hj => ?_, fun j _ => ?_, ?_, ?_, ?_, noEnd⟩
      · rw [hport, hsvc]; exact (kept hj (by rw [hc])).offer _
      · rw [hport]; exact (Port.offer_keeps _ _).state
      · rw [hsvc]; nofun
      · rw [hsvc]; nofun
      · rw [hsvc]; rfl
    | some q =>
      have hq : q ≠ p := fun e => (h.claimant q hc).1 (e ▸ hh)
      obtain ⟨tag, htag⟩ := (h.waits q).claim.mpr hc
      obtain ⟨hsvc, hport⟩ := relinquished_of_claimed hh hc htag
      have noEndClaim : ∀ tag', (s.relinquished p).run.pendingEnd ≠ some (q, tag') := fun tag' k => by
        have := htag.symm.trans (((h.waits q).endRun tag').mpr (relinquished_endRun_iff.mp k).2)
        cases this
      refine ⟨fun j hj => ?_, fun j _ => ?_, fun j hj => ?_, ?_, ?_, noEnd⟩
      · rw [hport, hsvc]
        dsimp only
        split
        · next e =>
          subst e
          rw [← Port.offer_replies (s.port j)]
          exact ((kept hj (c := some j) (by rw [hc])).offer _).endService (by simp [htag]) _ noEndClaim nofun
        · next e => exact (kept hj (c := none) (by rw [hc]; simp [Ne.symm e])).offer _
      · rw [hport]; dsimp only
        split <;> exact (Port.offer_keeps _ _).state
      · rw [hsvc] at hj
        obtain rfl := Option.some.inj hj
        exact ⟨hq, h.claimant_active hc⟩
      · rw [hsvc]; nofun
      · rw [hsvc]; rfl
  · have others {j : PortId} (k : s.svc.holder = some j) : j ≠ p ∧ (s.port j).state = .active :=
      ⟨fun e => hh (e ▸ k), h.holder j k⟩
    by_cases hc : s.svc.claimant = some p
    · obtain ⟨hsvc, hport⟩ := relinquished_of_claimant hh hc
      refine ⟨fun j hj => ?_, fun j _ => congrArg Port.state (hport j), fun j hj => ?_, ?_, ?_, noEnd⟩
      · rw [hport, hsvc]; exact kept hj (by rw [hc]; simp [Ne.symm hj])
      · rw [hsvc] at hj; exact others hj
      · rw [hsvc]; nofun
      · rw [hsvc]; rfl
    · obtain ⟨hsvc, hport⟩ := relinquished_of_neither hh hc
      refine ⟨fun j hj => ?_, fun j _ => congrArg Port.state (hport j), fun j hj => ?_, fun j hj => ?_, ?_, noEnd⟩
      · rw [hport, hsvc]; exact kept hj .rfl
      · rw [hsvc] at hj; exact others hj
      · rw [hsvc] at hj ⊢; exact ⟨fun e => hc (e ▸ hj), h.claimant j hj⟩
      · rw [hsvc]; exact h.deadline

/-- A port that has left ACTIVE waits for nothing, and the rest of the part stays consistent. -/
theorem Serving.left (h : Serving none s) (hleft : x.left x.state = x) :
    Serving none ((s.relinquished p).setPort p x) := by
  have r := relinquished_relinquishes (p := p) h
  refine ⟨fun j => ?_, fun j hj => ?_, fun j hj => (r.claimant j hj).2, r.deadline⟩
  · rw [State.port_setPort_ite]
    split
    · next e => subst e; exact .of_left hleft r.endRun fun k => (r.claimant j k).1 rfl
    · next e => exact r.waits j e
  · obtain ⟨hne, ha⟩ := r.holder j hj
    rw [State.port_setPort_of_ne _ _ hne, r.state j hne]
    exact ha

end

/-! ### The events of the links (R198 to R206) -/

section

variable {p : PortId} {s : State}

/-- A claimant does not hold authority (R217). -/
theorem Serving.not_both (h : Serving none s) : s.svc.claimant = some p → s.svc.holder ≠ some p :=
  fun k => (h.claimant p k).1

theorem clientLinkDown_serving (h : Serving none s) : Serving none (clientLinkDown p s) := by
  by_cases ha : (s.port p).state = .active
  · rw [clientLinkDown_of_active ha h.not_both]
    exact h.left rfl
  · unfold clientLinkDown
    dsimp only
    rw [if_neg ha]
    exact h.setPort rfl rfl (fun k => absurd k ha) fun _ => ((h.waits p).quiet ha).1

theorem clientLinkUp_serving (h : Serving none s) : Serving none (clientLinkUp p s) := by
  unfold clientLinkUp
  split
  · next ho =>
    have hs : (s.port p).state ≠ .active := by rw [ho]; decide
    exact h.setPort rfl rfl (fun k => absurd k hs) fun _ => ((h.waits p).quiet hs).1
  · exact h

theorem presenceDeadline_serving (h : Serving none s) : Serving none (presenceDeadline p s) := by
  by_cases hdue : s.Due (.presenceDeadline p)
  · obtain ⟨⟩ := hdue
    rw [presenceDeadline_of_due ‹_› ‹_› ‹_› h.not_both]
    exact h.left rfl
  · rw [presenceDeadline_of_not_due hdue]
    exact h

/-- A bad frame on a port whose header was perhaps corrected before (R200). -/
theorem badClientFrame_serving (h : Serving none s) (why : BadCause) : Serving none (badClientFrame p why s) := by
  have idle (hs : (s.port p).state ≠ .active) : (s.port p).inbox = [] := ((h.waits p).quiet hs).1
  by_cases ha : (s.port p).state = .active
  · by_cases hlimit : s.run.settings.badFrameLimit ≤ (s.port p).badRun + 1
    · have hbars := badClientFrame_bars (p := p) (s := s) why ha hlimit h.not_both
      rw [State.setPort_port] at hbars
      rw [hbars]
      exact h.left rfl
    · unfold badClientFrame
      dsimp only
      rw [if_pos (show ((s.port p).bad why).state = .active from ha),
        if_neg (show ¬s.run.settings.badFrameLimit ≤ ((s.port p).bad why).badRun + 1 from hlimit)]
      exact h.setPort rfl rfl id idle
  · unfold badClientFrame
    dsimp only
    rw [if_neg (show ¬((s.port p).bad why).state = .active from ha)]
    exact h.setPort rfl rfl id idle

theorem Port.receiveRequest_frame (q : Port) (r : Request) :
    (q.receiveRequest r).state = q.state ∧ (q.receiveRequest r).inService = q.inService ∧
      (q.receiveRequest r).replies = q.replies := by
  unfold Port.receiveRequest
  split <;> exact ⟨rfl, rfl, rfl⟩

/-- A valid frame leaves the requests in service; it makes the port ACTIVE or is only counted (R198 to R200). -/
theorem validClientFrame_serving (h : Serving none s) (f : RxFrame) : Serving none (validClientFrame p f s) := by
  have tracked := (s.port p).track_sameRole f.seq
  unfold validClientFrame Port.valid
  dsimp only
  split
  · exact h.setPort tracked.inService (congrArg reservedSlots tracked.replies) (fun ha => tracked.state.trans ha)
      fun hs => tracked.inbox.trans ((h.waits p).quiet (by rwa [← tracked.state])).1
  · obtain ⟨hstate, hservice, hreplies⟩ := Port.receiveRequest_frame
      (((s.port p).track f.seq).refreshed (s.now + s.run.settings.presenceMs * 1000))
      { kind := f.kind, tag := f.tag, payload := f.payload }
    exact h.setPort (hservice.trans tracked.inService)
      (congrArg reservedSlots (hreplies.trans tracked.replies)) (fun _ => hstate) fun hs => absurd hstate hs

theorem clientFrame_serving (h : Serving none s) (bytes : List Byte) : Serving none (clientFrame p bytes s) := by
  have corrected : Serving none (if (receive bytes).corrected = true then s.setPort p (s.port p).corrected else s) := by
    split
    · exact h.setPort rfl rfl id fun hs => ((h.waits p).quiet hs).1
    · exact h
  unfold clientFrame
  dsimp only
  split
  · exact h
  · split
    · exact badClientFrame_serving corrected _
    · exact validClientFrame_serving corrected _

/-- The transmitter passes over the reserved slots (R204). -/
theorem reservedSlots_takeAnswer {l rest : List ReplySlot} {a : Answer} (h : takeAnswer l = some (a, rest)) :
    reservedSlots rest = reservedSlots l := by
  induction l generalizing rest with
  | nil => cases h
  | cons x l ih =>
    cases x with
    | frame b => cases h; simp
    | reserved =>
      simp only [takeAnswer, Option.map_eq_some_iff, Prod.mk.injEq] at h
      obtain ⟨⟨b, tail⟩, hb, rfl, rfl⟩ := h
      simp [ih hb]

theorem transmitStart_serving (h : Serving none s) : Serving none (transmitStart p s) := by
  have idle (hs : (s.port p).state ≠ .active) : (s.port p).inbox = [] := ((h.waits p).quiet hs).1
  unfold transmitStart
  dsimp only
  split
  · split
    · next htake => exact h.setPort rfl (reservedSlots_takeAnswer htake) id idle
    · split
      · exact (streamBuild_reports p _).serving (h.setPort rfl rfl id idle)
      · exact h
  · exact h

theorem transmitEnd_serving (h : Serving none s) : Serving none (transmitEnd p s) :=
  h.setPort rfl rfl id fun hs => ((h.waits p).quiet hs).1

theorem yieldDeadline_serving (h : Serving none s) : Serving none (yieldDeadline s) := by
  unfold yieldDeadline
  split
  · next q d hq _ =>
    split
    · exact h.passed hq .expired
    · exact h
  · exact h

end

/-! ### Service (R203, R211) -/

section

variable {p : PortId} {s : State}

/-- SVC reserves a slot for the request that it takes, and the body has to answer it or keep it in service (R203,
R204). The run is as it was. -/
theorem serveWhen_serving {isKind : Byte → Bool} {body : Request → State → State} (h : Serving none s)
    (hbody : ∀ r t, t.run = s.run → Serving (some p) t → Serving none (body r t)) :
    Serving none (serveWhen isKind p body s) := by
  rcases serveWhen_cases isKind p body s with e | ⟨r, rest, hi, -, hv, -, e⟩
  · rw [e]; exact h
  · have ha : (s.port p).state = .active :=
      Decidable.byContradiction fun hs => by simp [((h.waits p).quiet hs).1] at hi
    have hp := h.waits p
    have taken : ((s.port p).taken rest).Waits p (some p) s.run.pendingEnd s.svc.claimant :=
      ⟨by simp [Port.taken, reservedSlots_append, hp.reserved, hv], fun _ => ⟨hv, ha⟩, hp.endRun, hp.claim,
        fun hs => absurd ha hs⟩
    rw [e]
    refine hbody r _ rfl (h.of_waits ?_ rfl (setPort_active id))
    exact h.waits.setPort taken (fun j hj => by simp [Ne.symm hj]) (fun _ _ _ => .rfl) fun _ _ => .rfl

theorem serveKind_serving {k : RequestKind} {ok : Nat → Bool} {body : Request → State → State} (h : Serving none s)
    (hbody : ∀ r t, t.run = s.run → Serving (some p) t → Serving none (body r t)) :
    Serving none (serveKind k ok p body s) := by
  refine serveWhen_serving h fun r t ht k => ?_
  split
  · exact hbody r t ht k
  · exact k.refused

theorem serveHolder_serving {k : RequestKind} {ok : Nat → Bool} {body : Request → State → State} (h : Serving none s)
    (hbody : ∀ r t, t.run = s.run → Serving (some p) t → Serving none (body r t)) :
    Serving none (serveHolder k ok p body s) := by
  refine serveKind_serving h fun r t ht k => ?_
  split
  · exact hbody r t ht k
  · exact k.refused

end

/-! ### The bodies of the requests -/

section Bodies

variable {p : PortId} {s : State} (r : Request) (h : Serving (some p) s)

include h

/-- A REPLY on a part that has the links of `s`. -/
theorem Serving.replied_of_links {t : State} {tag : Byte} {w : List Word} (hl : t.links = s.links) :
    Serving none (reply p tag w t) := ((Reports.still hl).serving h).replied

theorem Serving.served_active : (s.port p).state = .active := ((h.waits p).served rfl).2

theorem presenceBody_serving : Serving none (presenceBody p r s) :=
  h.of_waits (h.waits.setPort ((h.waits p).answered (reservedSlots_dropReserved _)) (fun j hj => by simp [Ne.symm hj])
    (fun _ _ _ => .rfl) fun _ _ => .rfl) rfl (setPort_active id)

theorem setLinkBody_serving : Serving none (setLinkBody p r s) := by
  unfold setLinkBody
  split
  · exact h.refused
  · next o _ =>
    have changed : Serving (some p) (s.setPort p { s.port p with options := o }) :=
      h.setPort rfl rfl id fun hs => absurd h.served_active hs
    dsimp only
    split
    · exact (streamBuild_reports p _).serving changed.replied
    · exact changed.replied

theorem readStatusBody_serving : Serving none (readStatusBody p r s) := by
  have emptied (w : List Word) : Serving none ((reply p r.tag w s).setPort p
      (((reply p r.tag w s).port p).withAttention 0#12)) := by
    have replied := h.replied (tag := r.tag) (w := w)
    exact replied.setPort rfl rfl id fun hs => ((replied.waits p).quiet hs).1
  unfold readStatusBody
  dsimp only
  split
  · exact h.refused
  · split
    · exact (emptied _).of_eq rfl rfl rfl
    · exact emptied _

theorem readTableBody_serving : Serving none (readTableBody p r s) := by
  unfold readTableBody
  dsimp only
  split
  · exact h.replied
  · split
    · exact h.refused
    · exact h.replied
  · exact h.replied
  · exact h.replied
  · exact h.refused

theorem readPointsBody_serving : Serving none (readPointsBody p r s) := by
  unfold readPointsBody
  dsimp only
  split
  · exact h.refused
  · split
    · exact h.refused
    · split
      · exact h.refused
      · split
        · exact h.refused
        · exact h.replied

theorem streamPointsBody_serving : Serving none (streamPointsBody p r s) := by
  unfold streamPointsBody
  dsimp only
  split
  · exact h.refused
  · have begun (x : Option Stream) : Serving (some p) (setStream p x (endStream p .replaced s)) :=
      ((endStream_reports p .replaced s).serving h).of_eq rfl rfl rfl
    exact ((gapTest_reports p _).trans ((runOverTest_reports p _).trans (streamBuild_reports p _))).serving
      ((begun _).replied)

theorem stopStreamBody_serving : Serving none (stopStreamBody p r s) := by
  unfold stopStreamBody
  split
  · exact ((endStream_reports p .stopped s).serving h).replied
  · exact h.replied

theorem ackUrgentBody_serving : Serving none (ackUrgentBody p r s) := by
  have acknowledged (x : ExcRecord) : Reports s (acknowledge p x s) := .offerAll _ _ _ rfl
  unfold ackUrgentBody
  dsimp only
  split
  · exact h.refused
  · split
    · exact ((acknowledged _).serving h).replied
    · exact h.replied
    · exact h.replied

/-- A CLAIM stays in service while the holder is asked to yield (R218). -/
theorem Serving.claimed (hc : s.svc.claimant = none) {q : PortId} (hh : s.svc.holder = some q) (hq : q ≠ p)
    (n : Notice) (d : Nat) (tag : Byte) : Serving none (setInService p (some (.claim tag))
      (offerTo q n { s with svc := { s.svc with claimant := some p, yieldAt := some d } })) := by
  have waits := h.waits
  rw [hc] at waits
  generalize hu : ({ s with svc := { s.svc with claimant := some p, yieldAt := some d } } : State) = u
  have hports : u.ports = s.ports := by subst hu; rfl
  have asked : (offerTo q n u).Waits (some p) s.run.pendingEnd none :=
    (waits.of_ports hports).setPort_congr fun k => k.offer n
  have active (j : PortId) (ha : (s.port j).state = .active) :
      ((setInService p (some (.claim tag)) (offerTo q n u)).port j).state = .active := by
    have hport : u.port j = s.port j := congrArg (PerPort.get · j) hports
    rw [(((offerTo_calm q n u).trans (setInService_calm p _ _)).keeps.ports j).state, hport]
    exact ha
  have waits' : (setInService p (some (.claim tag)) (offerTo q n u)).Waits none s.run.pendingEnd (some p) :=
    asked.setPort ((asked p).beginClaim tag) (fun j hj => by simp [Ne.symm hj]) (fun _ _ _ => .rfl)
      fun j hj => by simp [Ne.symm hj]
  subst hu
  refine ⟨waits', fun j hj => active j (h.holder j hj), fun j hj => ?_, rfl⟩
  obtain rfl : p = j := Option.some.inj hj
  show s.svc.holder ≠ some p ∧ s.svc.holder ≠ none
  rw [hh]
  exact ⟨fun e => hq (Option.some.inj e), nofun⟩

/-- A CLAIM is granted, refused CONTESTED, or stays in service while the holder is asked to yield (R218). -/
theorem claimBody_serving : Serving none (claimBody p r s) := by
  unfold claimBody
  dsimp only
  split
  · next hh =>
    have unclaimed : s.svc.claimant = none := Option.eq_none_iff_forall_ne_some.mpr fun q k => (h.claimant q k).2 hh
    exact (h.held unclaimed .claimed fun q e => Option.some.inj e ▸ h.served_active).replied
  · next q hh =>
    split
    · exact h.replied
    · next hq =>
      split
      · exact h.refused
      · next hc => exact h.claimed hc hh hq _ _ _

theorem yieldBody_serving : Serving none (yieldBody p r s) := by
  unfold yieldBody
  split
  · exact h.refused
  · split
    · exact h.refused
    · next hq => exact (h.passed hq .yielded).replied

theorem keepBody_serving : Serving none (keepBody p r s) := by
  unfold keepBody
  split
  · exact h.refused
  · split
    · exact h.refused
    · next hq => exact (h.claimRefused hq .kept).replied

theorem releaseBody_serving : Serving none (releaseBody p r s) := by
  unfold releaseBody
  split
  · exact h.refused
  · split
    · next hc => exact (h.held (h := none) hc .released nofun).replied
    · next hq => exact (h.passed hq .released).replied

theorem loadSettingsBody_serving : Serving none (loadSettingsBody p r s) := by
  have loaded (c : Settings) : Reports s (loadSettings c s) := (takeDueEdges_reports _).after (.still rfl)
  unfold loadSettingsBody
  dsimp only
  split
  · exact h.refused
  · split
    · exact h.refused
    · exact ((loaded _).serving h).replied

theorem loadThresholdsBody_serving : Serving none (loadThresholdsBody p r s) := by
  unfold loadThresholdsBody
  dsimp only
  split
  · exact h.refused
  · split
    · exact h.refused
    · split
      · exact h.refused
      · exact h.replied_of_links rfl

theorem sectionPutBody_serving : Serving none (sectionPutBody p r s) := by
  unfold sectionPutBody
  split
  · exact h.refused
  · split
    · exact h.refused
    · exact h.replied_of_links rfl

theorem sectionDropBody_serving : Serving none (sectionDropBody p r s) := by
  unfold sectionDropBody
  dsimp only
  split
  · exact h.refused
  · split
    · exact h.replied_of_links rfl
    · exact h.refused

theorem sectionClearBody_serving : Serving none (sectionClearBody p r s) := by
  unfold sectionClearBody
  split
  · exact h.replied_of_links rfl
  · exact h.refused

theorem markerPutBody_serving : Serving none (markerPutBody p r s) := by
  unfold markerPutBody
  dsimp only
  split
  · exact h.refused
  · exact h.replied_of_links rfl

theorem markerDropBody_serving : Serving none (markerDropBody p r s) := by
  unfold markerDropBody
  dsimp only
  split
  · exact h.replied_of_links rfl
  · exact h.refused

theorem markerClearBody_serving : Serving none (markerClearBody p r s) := by
  unfold markerClearBody
  split
  · exact h.replied_of_links rfl
  · exact h.refused

theorem manualFixBody_serving : Serving none (manualFixBody p r s) := by
  have told (ps : Pos) (e d : Int) (t : Nat) : Reports s (locationNotice .rebase none e d t { s with pos := ps }) :=
    .offerAll _ _ _ rfl
  unfold manualFixBody
  dsimp only
  split
  · exact h.refused
  · split
    · exact ((told _ _ _ _).serving h).replied
    · exact h.refused

theorem startRunBody_serving : Serving none (startRunBody p r s) := by
  unfold startRunBody
  dsimp only
  split
  · exact h.refused
  · split
    · exact h.refused
    · split
      · exact h.refused
      · exact ((startedRun_reports s _).serving h).replied

/-- In RUNNING no END_RUN is pending, so the one that is taken is the only one that RUN waits to answer (R179). -/
theorem endRunBody_serving (hrun : s.run.pendingEnd.isSome = true → s.run.state = .finishing .forming) :
    Serving none (endRunBody p r s) := by
  unfold endRunBody
  split
  · exact h.refused
  · next hrunning =>
    have none_pending : s.run.pendingEnd = none := by
      by_contra hne
      rw [hrun (Option.isSome_iff_ne_none.mpr hne)] at hrunning
      exact hrunning nofun
    have waits := h.waits
    rw [none_pending] at waits
    refine (finishTest_reports _).serving (h.of_waits ?_ rfl (setPort_active (s := { s with run := _ }) id))
    exact State.Waits.setPort (waits.of_ports rfl) ((waits p).beginEndRun r.tag) (fun j hj => by simp [Ne.symm hj])
      (fun j hj tag => by simp [setInService, Ne.symm hj]) fun _ _ => .rfl

/-! ### RESET_PART (R183, R184) -/

omit h in
/-- A pending CLAIM is refused at RESET_PART (R183). -/
theorem refuseClaimant_waits {o : Option PortId} {e : Option (PortId × Byte)} (k : s.Waits o e s.svc.claimant) :
    (refuseClaimant s).Waits o e none := by
  unfold refuseClaimant
  split
  · next q hq =>
    rw [hq] at k
    exact k.claimAnswered fun tag => { kind := .refuse, tag, rest :=
      [wordOfNat Reason.wrongState.code, wordOfNat 0, RequestKind.claim.code.setWidth 32] }
  · next hq => rwa [hq] at k

omit h in
theorem refuseClaimant_run : (refuseClaimant s).run = s.run := by
  unfold refuseClaimant refuseClaim answerClaim
  split
  · split <;> rfl
  · rfl

omit h in
/-- A pending END_RUN is refused at RESET_PART (R182). -/
theorem refusePendingEnd_waits {o c : Option PortId} (k : s.Waits o s.run.pendingEnd c) :
    (refusePendingEnd s).Waits o none c ∧ (refusePendingEnd s).run.pendingEnd = none := by
  unfold refusePendingEnd
  split
  · next q tag hq =>
    rw [hq] at k
    exact ⟨(k.endAnswered { kind := .refuse, tag, rest :=
      [wordOfNat Reason.wrongState.code, wordOfNat 0, RequestKind.endRun.code.setWidth 32] }).of_ports rfl, rfl⟩
  · next hq => rw [hq] at k; exact ⟨k, hq⟩

omit h in
/-- The notices of RESET_PART leave the requests in service, and no port holds or claims after them (R183, R184). -/
theorem resetNotices_serving {o : Option PortId} (k : s.Waits o none none) (hend : s.run.pendingEnd = none)
    (w c : Option Nat) : Serving o (resetNotices w c s) := by
  have flushed : (s.mapPorts fun q => { q with notices := [] }).Waits o none none := fun j => by
    rw [State.port_mapPorts]
    exact (k j).congr rfl rfl id fun hs => ((k j).quiet hs).1
  have ended : (endAllStreams .reset (s.mapPorts fun q => { q with notices := [] })).Waits o none none := fun j => by
    rw [endAllStreams_port, State.mapPorts_stream]
    split
    · exact (flushed j).offer _
    · exact flushed j
  have frame := endAllStreams_frame .reset (s.mapPorts fun q => { q with notices := [] })
  unfold resetNotices
  dsimp only
  generalize endAllStreams .reset (s.mapPorts fun q => { q with notices := [] }) = u at ended frame ⊢
  have hrun : u.run.pendingEnd = none := by rw [frame]; exact hend
  have hsvc : u.svc = s.svc := by rw [frame]; rfl
  have told := ended.told everyPort .run (runWords .reset w c u)
  split
  · refine Serving.of_unclaimed (h := none) ?_ rfl nofun
    exact State.Waits.told ((congrArg (State.Waits o · none _) hrun).mpr told |>.of_ports rfl) _ _ _
  · next hnone =>
    refine Serving.of_unclaimed (h := none) ?_ ?_ nofun
    · exact ((congrArg (State.Waits o · none _) hrun).mpr told).of_ports rfl
    · show ({ holder := u.svc.holder, claimant := none, yieldAt := none } : Svc) = _
      rw [hsvc, Option.not_isSome_iff_eq_none.mp hnone]

theorem resetPartBody_serving : Serving none (resetPartBody p r s) := by
  have parted : Serving (some p) (partBlocks s) := Reports.serving (s := s) (t := partBlocks s) (.still rfl) h
  have claimRefused := refuseClaimant_waits parted.waits
  rw [← refuseClaimant_run] at claimRefused
  obtain ⟨waits, hend⟩ := refusePendingEnd_waits claimRefused
  exact (resetNotices_serving waits hend _ _).replied

end Bodies

theorem hardReset_serving (s : State) : Serving none (hardReset s) :=
  (serving_none_iff.mpr serviceInv_reset).of_eq rfl rfl rfl

/-! ### Commands and steps -/

/-- Every command keeps the requests in service and authority consistent, where an END_RUN is pending only in
FINISHING. -/
theorem next_serving (c : Instr) {s : State}
    (hrun : s.run.pendingEnd.isSome = true → s.run.state = .finishing .forming) (h : Serving none s) :
    Serving none (s.next c) := by
  cases c with
  | powerOn => exact hardReset_serving s
  | resetn => exact hardReset_serving s
  | timebaseWrap =>
    show Serving none (if timebaseEnd ≤ s.now then hardReset s else s)
    split
    · exact hardReset_serving s
    · exact h
  | tachRawChange l level => exact (rawChange_reports l level s).serving h
  | tachEdgeValidated l => exact (takeEdge_reports l s).serving h
  | spacingPulseStart => exact (spacingStart_reports s).serving h
  | spacingPulseEnd => exact (spacingEnd_reports s).serving h
  | sensorFrameArrival c bytes => exact (sensorFrame_reports c bytes s).serving h
  | sensorLinkDown c => exact (sensorLinkDown_reports c s).serving h
  | sensorLinkUp c => exact h.of_eq rfl rfl rfl
  | sourceStaleDeadline c => exact (staleDeadline_reports c s).serving h
  | alignDeadline => exact (alignDeadline_reports s).serving h
  | clientFrameArrival p bytes => exact clientFrame_serving h bytes
  | clientLinkDown p => exact clientLinkDown_serving h
  | clientLinkUp p => exact clientLinkUp_serving h
  | presenceDeadline p => exact presenceDeadline_serving h
  | transmitFrameStart p => exact transmitStart_serving h
  | transmitFrameEnd p => exact transmitEnd_serving h
  | yieldDeadline => exact yieldDeadline_serving h
  | presence p => exact serveKind_serving h fun r _ _ => presenceBody_serving r
  | echo p => exact serveKind_serving h fun _ _ _ k => k.replied
  | identify p => exact serveKind_serving h fun _ _ _ k => k.replied
  | setLink p => exact serveKind_serving h fun r _ _ => setLinkBody_serving r
  | readStatus p => exact serveKind_serving h fun r _ _ => readStatusBody_serving r
  | readTable p => exact serveKind_serving h fun r _ _ => readTableBody_serving r
  | readPoints p => exact serveKind_serving h fun r _ _ => readPointsBody_serving r
  | streamPoints p => exact serveKind_serving h fun r _ _ => streamPointsBody_serving r
  | stopStream p => exact serveKind_serving h fun r _ _ => stopStreamBody_serving r
  | readExceedances p => exact serveKind_serving h fun _ _ _ k => k.replied
  | ackUrgent p => exact serveKind_serving h fun r _ _ => ackUrgentBody_serving r
  | claim p => exact serveKind_serving h fun r _ _ => claimBody_serving r
  | yield p => exact serveKind_serving h fun r _ _ => yieldBody_serving r
  | keep p => exact serveKind_serving h fun r _ _ => keepBody_serving r
  | release p => exact serveKind_serving h fun r _ _ => releaseBody_serving r
  | rejoin p => exact serveKind_serving h fun _ _ _ k => k.replied
  | loadSettings p => exact serveHolder_serving h fun r _ _ => loadSettingsBody_serving r
  | loadThresholds p => exact serveHolder_serving h fun r _ _ => loadThresholdsBody_serving r
  | sectionPut p => exact serveHolder_serving h fun r _ _ => sectionPutBody_serving r
  | sectionDrop p => exact serveHolder_serving h fun r _ _ => sectionDropBody_serving r
  | sectionClear p => exact serveHolder_serving h fun r _ _ => sectionClearBody_serving r
  | markerPut p => exact serveHolder_serving h fun r _ _ => markerPutBody_serving r
  | markerDrop p => exact serveHolder_serving h fun r _ _ => markerDropBody_serving r
  | markerClear p => exact serveHolder_serving h fun r _ _ => markerClearBody_serving r
  | startRun p => exact serveHolder_serving h fun r _ _ => startRunBody_serving r
  | endRun p => exact serveHolder_serving h fun r t ht k => endRunBody_serving r k (ht ▸ hrun)
  | manualFix p => exact serveHolder_serving h fun r _ _ => manualFixBody_serving r
  | resetPart p => exact serveHolder_serving h fun r _ _ => resetPartBody_serving r
  | unknownKindRequest p => exact serveWhen_serving (isKind := fun k => !isRequestKind k) h fun _ _ _ k => k.refused

/-- None of the events of an idle step is a request. -/
theorem laterEvent_serving {c : Instr} (hc : c ∈ laterEvents) {s : State} (h : Serving none s) :
    Serving none (s.next c) := by
  simp only [laterEvents, List.mem_cons, List.not_mem_nil, or_false] at hc
  rcases hc with rfl | rfl | rfl | rfl | rfl | rfl | rfl | rfl | rfl | rfl | rfl
  iterate 4 exact (staleDeadline_reports _ s).serving h
  · exact (alignDeadline_reports s).serving h
  iterate 4 exact presenceDeadline_serving h
  · exact yieldDeadline_serving h
  · exact (spacingEnd_reports s).serving h

/-- Settles O55: each command by the lemma on its own events, the idle step as the commands whose events it takes. -/
theorem stepsKeepServiceAndAuthority : Obligations.StepsKeepServiceAndAuthority := by
  intro s t hservice hrun hstep
  have h : Serving none s := serving_none_iff.mpr hservice
  rw [← serving_none_iff]
  unfold step at hstep
  split at hstep
  · next c rest _ =>
    rw [exec_next] at hstep
    cases hstep
    exact next_serving (s := { s with pending := rest }) c hrun.pendingEnd (h.of_eq rfl rfl rfl)
  · cases hstep
    unfold tick
    split
    · exact hardReset_serving s
    · exact (takeDue_keeps (fun k => k.serving) (fun c hc _ => laterEvent_serving hc) h).of_eq rfl rfl rfl

end Sys2Proof.Machine
end

section
/-!
PROOFS. Frames that arrive on a client port, valid or bad, the reports of its link, and its presence deadline (R194 to
R203, R209).
-/

namespace Sys2Proof.Machine

/-! ### The receiver (R194 to R197) -/

/-- A port after the header of a frame, corrected or not (R194, R197). -/
def Port.withHeader (q : Port) (k : Bool) : Port := if k then q.corrected else q

section

variable {p : PortId} {bytes : List Byte} {k : Bool} {s : State}

@[simp] theorem Port.withHeader_state (q : Port) (k : Bool) : (q.withHeader k).state = q.state := by cases k <;> rfl

/-- A received frame sets the header's flag and count first, whatever follows from the rest (R194). -/
theorem withHeader_setPort (k : Bool) (s : State) :
    (if k = true then s.setPort p (s.port p).corrected else s) = s.setPort p ((s.port p).withHeader k) := by
  cases k
  · exact (State.setPort_port s p).symm
  · rfl

theorem clientFrame_of_ok {f : RxFrame} (hup : (s.port p).state ≠ .offline)
    (hr : receive bytes = { corrected := k, result := .ok f }) :
    clientFrame p bytes s = s.setPort p
      (((s.port p).withHeader k).valid f (s.now + s.run.settings.presenceMs * 1000)) := by
  unfold clientFrame
  dsimp only
  rw [if_neg hup, hr]
  dsimp only
  rw [withHeader_setPort, validClientFrame, State.port_setPort, State.setPort_setPort]
  rfl

theorem clientFrame_of_error {why : BadCause} (hup : (s.port p).state ≠ .offline)
    (hr : receive bytes = { corrected := k, result := .error why }) :
    clientFrame p bytes s = badClientFrame p why (s.setPort p ((s.port p).withHeader k)) := by
  unfold clientFrame
  dsimp only
  rw [if_neg hup, hr]
  dsimp only
  rw [withHeader_setPort]

end

/-! ### Valid frames (R196, R198 to R200, R203) -/

/-- The receive sequence after a frame; where one was known and the frame's is not the next, a gap is flagged and
counted (R196). -/
theorem Port.track_eq (q : Port) (seq : BitVec 2) (gap : Bool)
    (hgap : gap = decide (∃ prev ∈ q.rxSeq, seq ≠ prev + 1)) :
    q.track seq = { q with
      rxSeq := some seq, linkErrors := if gap then q.linkErrors ||| 0x10#7 else q.linkErrors,
      sequenceGaps := if gap then inc16 q.sequenceGaps else q.sequenceGaps } := by
  unfold Port.track
  cases hseq : q.rxSeq with
  | none =>
    obtain rfl : gap = false := by simp [hgap, hseq]
    rfl
  | some prev =>
    by_cases h : seq = prev + 1
    · obtain rfl : gap = false := by rw [hgap, hseq]; simpa using h
      exact if_pos h
    · obtain rfl : gap = true := by rw [hgap, hseq]; simpa using h
      exact if_neg h

/-- In BARRED, a frame that is no REJOIN is tracked and counted alone (R200). -/
theorem Port.valid_barred {q : Port} {f : RxFrame} (hs : q.state = .barred) (hk : f.kind ≠ 0x10#8) (d : Nat) :
    q.valid f d = { q.track f.seq with barredDrops := inc16 (q.track f.seq).barredDrops } :=
  if_pos ⟨hs, hk⟩

/-- Otherwise the port is ACTIVE, and the frame enters its inbox or is dropped (R198 to R200, R203). -/
theorem Port.valid_entered {q : Port} {f : RxFrame} (h : q.state = .barred → f.kind = 0x10#8) (d : Nat) :
    q.valid f d = ((q.track f.seq).refreshed d).receiveRequest { kind := f.kind, tag := f.tag, payload := f.payload } :=
  if_neg fun k => k.2 (h k.1)

theorem Port.receiveRequest_room {q : Port} (h : q.inbox.length < 4) (r : Request) :
    q.receiveRequest r = { q with inbox := q.inbox ++ [r] } := if_pos h

theorem Port.receiveRequest_full {q : Port} (h : 4 ≤ q.inbox.length) (r : Request) :
    q.receiveRequest r = { q with
      linkErrors := q.linkErrors ||| 0x20#7, inboxDrops := inc16 q.inboxDrops } := if_neg (Nat.not_lt.mpr h)

/-- Settles O27: the header's flag and count, then the tracking, then what the port's state makes of the frame. -/
theorem validClientFramesEnterTheInbox : Obligations.ValidClientFramesEnterTheInbox := by
  intro p bytes f k s q up gap flags tracked entered answers hup hr
  have hgap : gap = decide (∃ prev ∈ (q.withHeader k).rxSeq, f.seq ≠ prev + 1) := by cases k <;> rfl
  have htrack : (q.withHeader k).track f.seq = tracked := by
    rw [Port.track_eq _ _ gap hgap]
    cases k <;> simp only [inc16_eq, Port.withHeader, Port.corrected] <;> rfl
  have harrives {x : Port} (hx : (q.withHeader k).valid f (s.now + s.run.settings.presenceMs * 1000) = x) :
      answers x := congrArg Host.Outcome.next ((clientFrame_of_ok hup hr).trans (congrArg (s.setPort p) hx))
  refine ⟨fun hs hk => harrives ?_, fun hk => ⟨fun hroom => harrives ?_, fun hfull => harrives ?_⟩⟩
  · rw [Port.valid_barred (by simpa using hs) hk, htrack, inc16_eq]
  · rw [Port.valid_entered (by simpa using hk), htrack]
    exact Port.receiveRequest_room (q := entered) hroom _
  · rw [Port.valid_entered (by simpa using hk), htrack]
    refine (Port.receiveRequest_full (q := entered) hfull _).trans ?_
    rw [inc16_eq]

/-! ### Bad frames (R197, R200, R201) -/

section

variable {p : PortId} {s : State} {x : Port} {why : BadCause}

/-- In OFFLINE no frame is received; in SILENT and BARRED a bad one is flagged and counted alone (R200). -/
theorem badClientFrame_of_quiet (hs : x.state ≠ .active) :
    badClientFrame p why (s.setPort p x) = s.setPort p (x.bad why) := by
  unfold badClientFrame
  dsimp only
  rw [State.port_setPort, State.setPort_setPort, if_neg (show ¬(x.bad why).state = .active from hs)]

/-- In ACTIVE, below the limit, a bad frame also adds to the consecutive count (R200). -/
theorem badClientFrame_of_active (ha : x.state = .active) (hlimit : x.badRun + 1 < s.run.settings.badFrameLimit) :
    badClientFrame p why (s.setPort p x) = s.setPort p { x.bad why with badRun := x.badRun + 1 } := by
  unfold badClientFrame
  dsimp only
  rw [State.port_setPort, State.setPort_setPort, if_pos (show (x.bad why).state = .active from ha),
    if_neg (show ¬(s.setPort p x).run.settings.badFrameLimit ≤ (x.bad why).badRun + 1 from Nat.not_le.mpr hlimit),
    State.setPort_setPort]
  rfl

/-- A port that SVC and RUN do not wait for gives up its stream alone. -/
theorem relinquished_of_idle (hh : s.svc.holder ≠ some p) (hc : s.svc.claimant ≠ some p)
    (he : ∀ tag, s.run.pendingEnd ≠ some (p, tag)) : s.relinquished p = setStream p none s := by
  have hend : dropPendingEnd p (setStream p none s) = setStream p none s := by
    unfold dropPendingEnd
    rw [setStream_run]
    split
    · next q tag hq => exact if_neg fun e : q = p => he tag (e ▸ hq)
    · rfl
  unfold State.relinquished dropAuthority
  rw [hend, setStream_svc, if_neg hh, if_neg hc]

end

/-- Settles O28: the flag and the counts of the frame, then the three outcomes by state and limit. -/
theorem badClientFramesCanBarThePort : Obligations.BadClientFramesCanBarThePort := by
  intro p bytes k e s q flag q' hup hr
  have hbad : (q.withHeader k).bad e = q' := by
    cases k <;> cases e <;> simp only [Port.bad, Port.withHeader, Port.corrected, inc16_eq] <;> rfl
  have hrun : (q.withHeader k).badRun = q.badRun := by cases k <;> rfl
  have harrives {u : State} (hu : badClientFrame p e (s.setPort p (q.withHeader k)) = u) :
      exec (.clientFrameArrival p bytes) s = .next u :=
    congrArg Host.Outcome.next ((clientFrame_of_error hup hr).trans hu)
  refine ⟨fun hs => harrives ?_, fun ha hlimit => harrives ?_, fun ha hlimit hh hc he => harrives ?_⟩
  · rw [badClientFrame_of_quiet (by simpa using hs), hbad]
  · rw [badClientFrame_of_active (by simpa using ha) (by rwa [hrun]), hbad, hrun]
  · have hbars : (q.withHeader k).bars = q.bars := by cases k <;> rfl
    rw [badClientFrame_bars e (by simpa using ha) (by rwa [hrun]) (fun k => absurd k hc), hbad, hbars,
      relinquished_of_idle hh hc he, inc16_eq]
    rfl

/-! ### Link reports and presence (R198, R199, R209) -/

/-- A port that has left ACTIVE keeps its counters alone when its link goes down (R209). -/
theorem Port.cut_of_quiet {q : Port} {x : Option Stream} (h : q.Quiet x) (hattn : q.attn = false) :
    q.cut = { Port.reset with
      badFrames := q.badFrames, correctedHeaders := q.correctedHeaders, sequenceGaps := q.sequenceGaps,
      inboxDrops := q.inboxDrops, lostNotices := q.lostNotices, presenceTimeouts := q.presenceTimeouts,
      bars := q.bars, barredDrops := q.barredDrops } := by
  simp only [Port.cut, h.inbox, h.inService, h.replies, h.notices, h.presenceAt, h.badRun, h.attention, h.options, hattn]
  rfl

theorem setStream_of_none {p : PortId} {s : State} (h : s.stream p = none) : setStream p none s = s := by
  unfold setStream
  rw [← h, State.stream, PerPort.set_get]

/-- Settles O29: a port in ACTIVE leaves it (`State.relinquished`), and one that is not ACTIVE is quiet already. -/
theorem linkReportsAndPresence : Obligations.LinkReportsAndPresence := by
  intro p s q
  refine ⟨fun ho => congrArg Host.Outcome.next (if_pos ho), fun ho => congrArg Host.Outcome.next (if_neg ho),
    fun hh hc he => ⟨fun hq => congrArg Host.Outcome.next ?_, fun d ha hd hle => congrArg Host.Outcome.next ?_⟩⟩
  · by_cases ha : q.state = .active
    · rw [clientLinkDown_of_active ha (fun k => absurd k hc), relinquished_of_idle hh hc he]
      rfl
    · have hcut : clientLinkDown p s = s.setPort p q.cut := by
        unfold clientLinkDown
        dsimp only
        rw [if_neg ha]
      rw [hcut, setStream_of_none (hq.quiet ha).stream, Port.cut_of_quiet (hq.quiet ha) (hq.attn_of_quiet ha)]
  · rw [presenceDeadline_of_due ha hd hle (fun k => absurd k hc), relinquished_of_idle hh hc he, inc16_eq]
    rfl

end Sys2Proof.Machine
end

section
/-!
PROOFS. The transmitter of a client port, and the requests PRESENCE, ECHO and REJOIN (R204, R206, R212).
-/

namespace Sys2Proof.Machine

/-! ### The transmitter (R204, R206) -/

/-- Every slot of a queue is reserved when as many are as it has slots. -/
theorem reserved_of_reservedSlots {l : List ReplySlot} (h : reservedSlots l = l.length) : ∀ x ∈ l, x = .reserved :=
  fun x hx => of_decide_eq_true (List.countP_eq_length.mp h x hx)

/-- The oldest answer stands behind the reserved slots. -/
theorem takeAnswer_append {front : List ReplySlot} (h : ∀ x ∈ front, x = .reserved) (a : Answer)
    (back : List ReplySlot) : takeAnswer (front ++ .frame a :: back) = some (a, front ++ back) := by
  induction front with
  | nil => rfl
  | cons x front ih =>
    obtain rfl := h x List.mem_cons_self
    simp [takeAnswer, ih fun y hy => h y (List.mem_cons_of_mem _ hy)]

/-- The answer that a free transmitter begins in ACTIVE (R206). -/
theorem transmitStart_answer {p : PortId} {s : State} {front back : List ReplySlot} {a : Answer}
    (hactive : (s.port p).state = .active) (hfree : (s.port p).sending = none) (hnow : 2000 ≤ s.now)
    (hreplies : (s.port p).replies = front ++ .frame a :: back) (hfront : reservedSlots front = front.length) :
    transmitStart p s = s.setPort p ((s.port p).beginAnswer a (front ++ back)) := by
  refine (if_pos ⟨hactive, hfree, hnow⟩).trans ?_
  rw [hreplies, takeAnswer_append (reserved_of_reservedSlots hfront)]

/-- Settles O31: an answer behind reserved slots is found, and where every slot is reserved the oldest notice goes. -/
theorem transmitterTakesAnswersFirst : Obligations.TransmitterTakesAnswersFirst := by
  intro p s q
  refine ⟨rfl, fun ha hfree hnow => ⟨fun front back a hreplies hfront => congrArg Host.Outcome.next ?_,
    fun n rest hreplies hnotices hstream => congrArg Host.Outcome.next ?_⟩⟩
  · have hcode : a.kind.code = if a.kind = .reply then 0x40#8 else 0x41#8 := by cases a.kind <;> rfl
    rw [transmitStart_answer ha hfree hnow hreplies hfront, ← hcode]
    rfl
  · exact (transmitStart_notice ha hfree hnow hreplies hnotices).trans (streamBuild_of_none hstream)

/-! ### PRESENCE, ECHO and REJOIN (R204, R212) -/

/-- The reservation of a request just taken is gone again. -/
theorem Serves.release_taken {k : RequestKind} {p : PortId} {r : Request} {rest : List Request} {s : State}
    (h : Serves k p r rest s) :
    releaseReservation p (s.setPort p ((s.port p).taken rest)) = s.setPort p { s.port p with inbox := rest } := by
  simp [releaseReservation, Port.taken, dropReserved_append _ h.unreserved]

/-- Settles O35: each request reaches its body, whose answer takes the reserved slot. -/
theorem presenceEchoAndRejoin : Obligations.PresenceEchoAndRejoin := by
  intro p r rest s
  refine ⟨fun h => congrArg Host.Outcome.next ?_, fun h => congrArg Host.Outcome.next ?_,
    fun h hp => congrArg Host.Outcome.next ?_⟩
  · exact (h.body_runs rfl (presenceBody p)).trans h.release_taken
  · have hmax : maxWords p (s.setPort p ((s.port p).taken rest)) = (s.port p).options.maxReplyWords := by
      rw [maxWords, State.port_setPort]; rfl
    rw [h.body_runs rfl (echoBody p), echoBody, hmax, h.reply_taken, Nat.min_comm, ← List.take_take, List.take_length]
  · exact (h.body_runs (by rw [hp]; rfl) (rejoinBody p)).trans (h.reply_taken [])

end Sys2Proof.Machine
end

section
/-!
PROOFS. The header code of the frame layer (R193, R194): counts of ones modulo 2, what the check bits make of them, and
what an inverted bit does to syndrome and parity.
-/

namespace Sys2Proof.Machine

/-! ### Counts of ones (R193, R194) -/

section

variable {h : Word} {i j k : Nat} {l : List Nat}

theorem foldl_xor (f : Nat → Bool) (a : Bool) (l : List Nat) :
    l.foldl (fun acc i => xor acc (f i)) a = xor a (l.foldl (fun acc i => xor acc (f i)) false) := by
  induction l generalizing a with
  | nil => simp
  | cons x l ih => rw [List.foldl_cons, ih, List.foldl_cons, ih (xor false (f x))]; simp

theorem oddOnes_cons (h : Word) (i : Nat) (l : List Nat) : oddOnes h (i :: l) = xor (headerBit h i) (oddOnes h l) := by
  rw [oddOnes, List.foldl_cons, foldl_xor, oddOnes, Bool.false_xor]

/-- A fold of exclusive-ors says whether the ones are odd in number. -/
theorem oddOnes_eq (h : Word) (l : List Nat) : oddOnes h l = decide ((l.filter h.getLsbD).length % 2 = 1) := by
  induction l with
  | nil => rfl
  | cons i l ih =>
    rw [oddOnes_cons, ih, headerBit, List.filter_cons]
    cases h.getLsbD i
    · simp
    · rcases Nat.mod_two_eq_zero_or_one (l.filter h.getLsbD).length with e | e <;>
        simp [Nat.add_mod, e]

theorem syndromeBit_eq (h : Word) (j : Nat) : syndromeBit h j =
    decide (((List.range 32).filter fun i => i.testBit j && h.getLsbD i).length % 2 = 1) := by
  rw [syndromeBit, oddOnes_eq, coveredPositions, List.filter_filter]
  simp only [Bool.and_comm]

theorem parityBad_eq (h : Word) : parityBad h = decide (((List.range 32).filter h.getLsbD).length % 2 = 1) :=
  oddOnes_eq h _

/-! ### The syndrome as a number (R194) -/

/-- The bits of a number written by its five bits. -/
theorem testBit_ofBits : ∀ a b c d e : Bool, ∀ j, j < 5 →
    (a.toNat + 2 * b.toNat + 4 * c.toNat + 8 * d.toNat + 16 * e.toNat).testBit j = [a, b, c, d, e].getD j false := by
  decide

theorem syndrome_lt (h : Word) : syndrome h < 2 ^ 5 := by
  have bound (b : Bool) : b.toNat ≤ 1 := Bool.toNat_le b
  have h0 := bound (syndromeBit h 0)
  have h1 := bound (syndromeBit h 1)
  have h2 := bound (syndromeBit h 2)
  have h3 := bound (syndromeBit h 3)
  have h4 := bound (syndromeBit h 4)
  unfold syndrome
  omega

theorem testBit_syndrome (h : Word) (hj : j < 5) : (syndrome h).testBit j = syndromeBit h j := by
  rw [syndrome, testBit_ofBits _ _ _ _ _ j hj]
  match j, hj with
  | 0, _ | 1, _ | 2, _ | 3, _ | 4, _ => rfl

/-- Numbers below 32 that agree in their five bits. -/
theorem eq_of_testBit_lt_five {m n : Nat} (hm : m < 2 ^ 5) (hn : n < 2 ^ 5)
    (heq : ∀ j, j < 5 → m.testBit j = n.testBit j) : m = n := by
  refine Nat.eq_of_testBit_eq fun j => ?_
  by_cases hj : j < 5
  · exact heq j hj
  · have hpow : 2 ^ 5 ≤ 2 ^ j := Nat.pow_le_pow_right (by decide) (Nat.le_of_not_lt hj)
    rw [Nat.testBit_lt_two_pow (hm.trans_le hpow), Nat.testBit_lt_two_pow (hn.trans_le hpow)]

/-- A bit of the exclusive-or of the positions that hold a one. -/
theorem testBit_foldl_xor (f : Nat → Bool) (a j : Nat) (l : List Nat) :
    (l.foldl (fun acc i => if f i then acc ^^^ i else acc) a).testBit j =
      l.foldl (fun acc i => xor acc (i.testBit j && f i)) (a.testBit j) := by
  induction l generalizing a with
  | nil => rfl
  | cons i l ih =>
    rw [List.foldl_cons, ih, List.foldl_cons]
    congr 1
    cases f i <;> simp

theorem foldl_xor_lt {n : Nat} (f : Nat → Bool) {a : Nat} {l : List Nat} (ha : a < 2 ^ n) (hl : ∀ i ∈ l, i < 2 ^ n) :
    l.foldl (fun acc i => if f i then acc ^^^ i else acc) a < 2 ^ n := by
  induction l generalizing a with
  | nil => exact ha
  | cons i l ih =>
    rw [List.foldl_cons]
    refine ih ?_ fun k hk => hl k (List.mem_cons_of_mem i hk)
    split
    · exact Nat.xor_lt_two_pow ha (hl i List.mem_cons_self)
    · exact ha

/-- The fold of exclusive-ors over the positions listed whose number has bit `j`. -/
theorem oddOnes_filter (h : Word) (p : Nat → Bool) (l : List Nat) :
    oddOnes h (l.filter p) = l.foldl (fun acc i => xor acc (p i && h.getLsbD i)) false := by
  induction l with
  | nil => rfl
  | cons i l ih =>
    rw [List.foldl_cons, foldl_xor, ← ih, List.filter_cons]
    cases hp : p i
    · simp
    · simp [oddOnes_cons, headerBit]

theorem syndrome_eq_foldl (h : Word) :
    syndrome h = (List.range 32).foldl (fun acc i => if h.getLsbD i then acc ^^^ i else acc) 0 := by
  refine eq_of_testBit_lt_five (syndrome_lt h) (foldl_xor_lt _ (by decide) fun i hi => List.mem_range.mp hi)
    fun j hj => ?_
  rw [testBit_syndrome h hj, testBit_foldl_xor, syndromeBit, coveredPositions, oddOnes_filter, Nat.zero_testBit]

/-- Settles O7: the syndrome bit by bit, and the three outcomes of the check in terms of the counts of ones. -/
theorem headerCheckFollowsSyndromeAndParity : Obligations.HeaderCheckFollowsSyndromeAndParity := by
  intro h
  refine ⟨fun j hj => (testBit_syndrome h hj).trans (syndromeBit_eq h j), syndrome_eq_foldl h, ?_⟩
  intro good
  have hparity : parityBad h = true ↔ ¬good := by
    rw [parityBad_eq, decide_eq_true_iff]
    exact Nat.mod_two_ne_zero.symm
  exact ⟨fun hg hs => by rw [checkHeader, if_neg (fun k => hparity.mp k hg), if_pos hs],
    fun hg => by rw [checkHeader, if_pos (hparity.mpr hg)],
    fun hg hs => by rw [checkHeader, if_neg (fun k => hparity.mp k hg), if_neg hs]⟩

/-! ### One bit inverted or set (R193, R194) -/

theorem getLsbD_one_shiftLeft (hi : i < 32) (k : Nat) : (1#32 <<< i).getLsbD k = decide (k = i) := by
  rw [show (1#32 <<< i) = BitVec.twoPow 32 i from rfl, BitVec.getLsbD_twoPow]
  simp [hi, eq_comm]

theorem getLsbD_flipBit (h : Word) (hi : i < 32) (k : Nat) :
    (flipBit h i).getLsbD k = xor (h.getLsbD k) (decide (k = i)) := by
  rw [flipBit, BitVec.getLsbD_xor, getLsbD_one_shiftLeft hi]

theorem getLsbD_putBit (h : Word) (hi : i < 32) (b : Bool) (k : Nat) :
    (putBit h i b).getLsbD k = (h.getLsbD k || (decide (k = i) && b)) := by
  cases b
  · simp [putBit]
  · rw [putBit, if_pos rfl, BitVec.getLsbD_or, getLsbD_one_shiftLeft hi, Bool.and_true]

/-- Setting a bit that is 0 inverts it, or leaves it. -/
theorem putBit_eq (b : Bool) (hlt : i < 32) (hi : h.getLsbD i = false) :
    putBit h i b = if b then flipBit h i else h := by
  cases b
  · rfl
  · refine BitVec.eq_of_getLsbD_eq fun k _ => ?_
    rw [if_pos rfl, getLsbD_flipBit h hlt, getLsbD_putBit h hlt, Bool.and_true]
    by_cases e : k = i
    · subst e; simp [hi]
    · simp [e]

theorem oddOnes_flipBit (h : Word) (hi : i < 32) (hl : l.Nodup) :
    oddOnes (flipBit h i) l = xor (oddOnes h l) (decide (i ∈ l)) := by
  induction l with
  | nil => simp [oddOnes]
  | cons k l ih =>
    obtain ⟨hk, hl⟩ := List.nodup_cons.mp hl
    rw [oddOnes_cons, oddOnes_cons, ih hl, headerBit, headerBit, getLsbD_flipBit h hi]
    by_cases e : k = i
    · subst e; simp [hk, Bool.xor_comm]
    · simp [e, Ne.symm e]

theorem coveredPositions_nodup (j : Nat) : (coveredPositions j).Nodup := List.nodup_range.filter _

theorem mem_coveredPositions (hi : i < 32) : i ∈ coveredPositions j ↔ i.testBit j = true := by
  simp [coveredPositions, hi]

/-- An inverted bit inverts the syndrome bits that its position has. -/
theorem syndromeBit_flipBit (h : Word) (hi : i < 32) (j : Nat) :
    syndromeBit (flipBit h i) j = xor (syndromeBit h j) (i.testBit j) := by
  rw [syndromeBit, oddOnes_flipBit h hi (coveredPositions_nodup j)]
  simp [mem_coveredPositions hi, syndromeBit]

theorem parityBad_flipBit (h : Word) (hi : i < 32) : parityBad (flipBit h i) = !parityBad h := by
  rw [parityBad, oddOnes_flipBit h hi List.nodup_range]
  simp [hi, parityBad]

theorem syndrome_flipBit (h : Word) (hi : i < 32) : syndrome (flipBit h i) = syndrome h ^^^ i := by
  refine eq_of_testBit_lt_five (syndrome_lt _) (Nat.xor_lt_two_pow (syndrome_lt h) hi) fun j hj => ?_
  rw [testBit_syndrome _ hj, syndromeBit_flipBit h hi, Nat.testBit_xor, testBit_syndrome h hj]

theorem flipBit_flipBit (h : Word) (i : Nat) : flipBit (flipBit h i) i = h := by
  rw [flipBit, flipBit, BitVec.xor_assoc, BitVec.xor_self, BitVec.xor_zero]

/-! ### The check bits (R193) -/

theorem getLsbD_setCheck (hj : h.getLsbD (2 ^ j) = false) (hlt : j < 5) (hk : k ≠ 2 ^ j) :
    (setCheck h j).getLsbD k = h.getLsbD k := by
  have hpow : 2 ^ j < 32 := Nat.pow_lt_pow_right (by decide) hlt
  rw [setCheck, putBit_eq _ hpow hj]
  split
  · rw [getLsbD_flipBit h hpow]; simp [hk]
  · rfl

/-- Check bit `j` clears bit `j` of the syndrome and leaves the others. -/
theorem syndromeBit_setCheck (hj : h.getLsbD (2 ^ j) = false) (hlt : j < 5) (k : Nat) :
    syndromeBit (setCheck h j) k = if k = j then false else syndromeBit h k := by
  have hpow : 2 ^ j < 32 := Nat.pow_lt_pow_right (by decide) hlt
  rw [setCheck, putBit_eq _ hpow hj]
  cases hs : syndromeBit h j
  · by_cases e : k = j
    · simp [e, hs]
    · simp [e]
  · rw [if_pos rfl, syndromeBit_flipBit h hpow, Nat.testBit_two_pow]
    by_cases e : k = j
    · subst e; simp [hs]
    · simp [e, Ne.symm e]

/-- The check bits up to `n` clear the syndrome bits up to `n`, and change no other position. -/
theorem foldl_setCheck {n : Nat} (hn : n ≤ 5) (hzero : ∀ j, j < 5 → h.getLsbD (2 ^ j) = false) :
    (∀ j, syndromeBit ((List.range n).foldl setCheck h) j = if j < n then false else syndromeBit h j) ∧
      ∀ k, (∀ j, j < n → k ≠ 2 ^ j) → ((List.range n).foldl setCheck h).getLsbD k = h.getLsbD k := by
  induction n with
  | zero => exact ⟨fun j => rfl, fun k _ => rfl⟩
  | succ n ih =>
    obtain ⟨hsyn, hbit⟩ := ih (by omega)
    have hnext : ((List.range n).foldl setCheck h).getLsbD (2 ^ n) = false := by
      rw [hbit _ fun j hj e => by have := Nat.pow_right_injective (le_refl 2) e; omega]
      exact hzero n (by omega)
    rw [List.range_succ, List.foldl_append, List.foldl_cons, List.foldl_nil]
    refine ⟨fun j => ?_, fun k hk => ?_⟩
    · rw [syndromeBit_setCheck hnext (by omega), hsyn]
      by_cases e : j = n
      · simp [e]
      · have hiff : j < n ↔ j < n + 1 := by omega
        simp [e, hiff]
    · rw [getLsbD_setCheck hnext (by omega) (hk n (by omega)), hbit k fun j hj => hk j (by omega)]

/-- Bit 0 makes the parity good, and counts in no syndrome bit. -/
theorem setParity_spec (hzero : h.getLsbD 0 = false) :
    parityBad (setParity h) = false ∧ (∀ j, syndromeBit (setParity h) j = syndromeBit h j) ∧
      ∀ k, k ≠ 0 → (setParity h).getLsbD k = h.getLsbD k := by
  rw [setParity, putBit_eq _ (by decide) hzero]
  cases hp : parityBad h
  · exact ⟨hp, fun j => rfl, fun k _ => rfl⟩
  · refine ⟨?_, fun j => ?_, fun k hk => ?_⟩
    · rw [if_pos rfl, parityBad_flipBit h (by decide), hp]; rfl
    · rw [if_pos rfl, syndromeBit_flipBit h (by decide)]; simp
    · rw [if_pos rfl, getLsbD_flipBit h (by decide)]; simp [hk]

end

/-! ### Fields and positions (10 section 10.1.1) -/

/-- A header holds fields at their positions, each from its most significant bit on. -/
def HoldsFields (h : Word) (f : HeaderFields) : Prop :=
  [3, 5, 6, 7, 9, 10, 11, 12].map h.getLsbD = [7, 6, 5, 4, 3, 2, 1, 0].map f.kind.getLsbD ∧
    [13, 14, 15, 17, 18, 19, 20, 21].map h.getLsbD = [7, 6, 5, 4, 3, 2, 1, 0].map f.tag.getLsbD ∧
    [22, 23, 24, 25, 26, 27, 28, 29].map h.getLsbD = [7, 6, 5, 4, 3, 2, 1, 0].map f.length.getLsbD ∧
    [30, 31].map h.getLsbD = [1, 0].map f.seq.getLsbD

theorem getLsbD_ofNat_toNat (w : Nat) (b : Bool) (m : Nat) :
    (BitVec.ofNat w b.toNat).getLsbD m = (decide (m < w) && (b && decide (m = 0))) := by
  cases b
  · simp
  · cases m <;> simp [BitVec.getLsbD_ofNat, Nat.testBit_succ]

/-- The bit that stands last is read last, as bit 0. -/
theorem getLsbD_readField (w : Nat) (h : Word) (l : List Nat) (n : Nat) :
    (readField w h l).getLsbD n = (decide (n < w) && (l.reverse[n]?.map h.getLsbD).getD false) := by
  induction l using List.reverseRecOn generalizing n with
  | nil => simp [readField]
  | append_singleton l i ih =>
    have hstep : readField w h (l ++ [i]) = (readField w h l <<< 1) ||| BitVec.ofNat w (headerBit h i).toNat := by
      simp [readField]
    rw [hstep, BitVec.getLsbD_or, getLsbD_ofNat_toNat, BitVec.getLsbD_shiftLeft]
    cases n with
    | zero => simp [headerBit]
    | succ n =>
      have hread := ih n
      by_cases hw : n + 1 < w
      · have hw' : n < w := by omega
        simp only [hw', decide_true, Bool.true_and] at hread
        simp [hw, hread]
      · simp [hw]

theorem holdsFields_headerFields (h : Word) : HoldsFields h (headerFields h) := by
  refine ⟨?_, ?_, ?_, ?_⟩ <;> simp only [List.map, headerFields, getLsbD_readField] <;> rfl

/-- A header holds one set of fields. -/
theorem HoldsFields.unique {h : Word} {f g : HeaderFields} (hf : HoldsFields h f) (hg : HoldsFields h g) : f = g := by
  have byte {a b : Byte} (e : [7, 6, 5, 4, 3, 2, 1, 0].map a.getLsbD = [7, 6, 5, 4, 3, 2, 1, 0].map b.getLsbD) :
      a = b := by
    refine BitVec.eq_of_getLsbD_eq fun i hi => ?_
    exact List.map_inj_left.mp e i (by revert i; decide)
  have pair {a b : BitVec 2} (e : [1, 0].map a.getLsbD = [1, 0].map b.getLsbD) : a = b := by
    refine BitVec.eq_of_getLsbD_eq fun i hi => ?_
    exact List.map_inj_left.mp e i (by revert i; decide)
  obtain ⟨hkind, htag, hlength, hseq⟩ := hf
  obtain ⟨gkind, gtag, glength, gseq⟩ := hg
  cases f
  cases g
  simp only [HeaderFields.mk.injEq]
  exact ⟨byte (hkind.symm.trans gkind), byte (htag.symm.trans gtag), byte (hlength.symm.trans glength),
    pair (hseq.symm.trans gseq)⟩

/-! ### The fields placed (R193) -/

/-- Bits put one after the other into a header. -/
theorem getLsbD_foldl_putBit (bit : Nat × Nat → Bool) {ps : List (Nat × Nat)} (hps : ∀ p ∈ ps, p.1 < 32) (h : Word)
    (k : Nat) : (ps.foldl (fun acc p => putBit acc p.1 (bit p)) h).getLsbD k =
      (h.getLsbD k || ps.any fun p => decide (k = p.1) && bit p) := by
  induction ps generalizing h with
  | nil => simp
  | cons p ps ih =>
    rw [List.foldl_cons, ih fun q hq => hps q (List.mem_cons_of_mem p hq), getLsbD_putBit h (hps p List.mem_cons_self),
      List.any_cons, Bool.or_assoc]

theorem getLsbD_placeField {w : Nat} (h : Word) {positions : List Nat} (hlt : ∀ i ∈ positions, i < 32)
    (field : BitVec w) (k : Nat) : (placeField h positions field).getLsbD k =
      (h.getLsbD k || positions.zipIdx.any fun p => decide (k = p.1) && field.getLsbD (w - 1 - p.2)) :=
  getLsbD_foldl_putBit _ (fun _ hp => hlt _ (List.fst_mem_of_mem_zipIdx hp)) h k

theorem getLsbD_placeFields (f : HeaderFields) (k : Nat) : (placeFields f).getLsbD k =
    ((kindPositions.zipIdx.any fun p => decide (k = p.1) && f.kind.getLsbD (7 - p.2)) ||
      (tagPositions.zipIdx.any fun p => decide (k = p.1) && f.tag.getLsbD (7 - p.2)) ||
      (lengthPositions.zipIdx.any fun p => decide (k = p.1) && f.length.getLsbD (7 - p.2)) ||
      (seqPositions.zipIdx.any fun p => decide (k = p.1) && f.seq.getLsbD (1 - p.2))) := by
  rw [placeFields, getLsbD_placeField _ (by decide), getLsbD_placeField _ (by decide),
    getLsbD_placeField _ (by decide), getLsbD_placeField _ (by decide), BitVec.getLsbD_zero, Bool.false_or]

theorem holdsFields_placeFields (f : HeaderFields) : HoldsFields (placeFields f) f := by
  refine ⟨?_, ?_, ?_, ?_⟩ <;>
    simp [-BitVec.getLsbD_eq_getElem, getLsbD_placeFields, kindPositions, tagPositions, lengthPositions, seqPositions]

/-- No field stands at bit 0 or at the position of a check bit. -/
theorem placeFields_checkBits (f : HeaderFields) :
    (placeFields f).getLsbD 0 = false ∧ ∀ j, j < 5 → (placeFields f).getLsbD (2 ^ j) = false := by
  refine ⟨?_, fun j hj => ?_⟩
  · simp [-BitVec.getLsbD_eq_getElem, getLsbD_placeFields, kindPositions, tagPositions, lengthPositions, seqPositions]
  · interval_cases j <;>
      simp [-BitVec.getLsbD_eq_getElem, getLsbD_placeFields, kindPositions, tagPositions, lengthPositions, seqPositions]

/-! ### The header built (R193) -/

/-- The check bits and the parity of a built header are good, and its other positions are as the fields were placed. -/
theorem buildHeader_spec (f : HeaderFields) : parityBad (buildHeader f) = false ∧
    (∀ j, j < 5 → syndromeBit (buildHeader f) j = false) ∧
    ∀ k, k ≠ 0 → (∀ j, j < 5 → k ≠ 2 ^ j) → (buildHeader f).getLsbD k = (placeFields f).getLsbD k := by
  obtain ⟨hzero, hcheck⟩ := placeFields_checkBits f
  obtain ⟨hsyn, hbit⟩ := foldl_setCheck (le_refl 5) hcheck
  have hfirst : ((List.range 5).foldl setCheck (placeFields f)).getLsbD 0 = false := by
    rw [hbit 0 fun j _ => (Nat.two_pow_pos j).ne, hzero]
  obtain ⟨hparity, hkeepsSyn, hkeepsBit⟩ := setParity_spec hfirst
  refine ⟨hparity, fun j hj => ?_, fun k hk hkc => ?_⟩
  · rw [buildHeader, hkeepsSyn, hsyn, if_pos hj]
  · rw [buildHeader, hkeepsBit k hk, hbit k hkc]

theorem holdsFields_buildHeader (f : HeaderFields) : HoldsFields (buildHeader f) f := by
  obtain ⟨-, -, hbit⟩ := buildHeader_spec f
  have hsame {l : List Nat} (hl : ∀ k ∈ l, k ≠ 0 ∧ ∀ j, j < 5 → k ≠ 2 ^ j) :
      l.map (buildHeader f).getLsbD = l.map (placeFields f).getLsbD :=
    List.map_congr_left fun k hk => hbit k (hl k hk).1 (hl k hk).2
  obtain ⟨hkind, htag, hlength, hseq⟩ := holdsFields_placeFields f
  exact ⟨(hsame (by decide)).trans hkind, (hsame (by decide)).trans htag, (hsame (by decide)).trans hlength,
    (hsame (by decide)).trans hseq⟩

theorem headerFields_buildHeader (f : HeaderFields) : headerFields (buildHeader f) = f :=
  (holdsFields_headerFields _).unique (holdsFields_buildHeader f)

theorem syndrome_buildHeader (f : HeaderFields) : syndrome (buildHeader f) = 0 := by
  obtain ⟨-, hsyn, -⟩ := buildHeader_spec f
  refine eq_of_testBit_lt_five (syndrome_lt _) (by decide) fun j hj => ?_
  rw [testBit_syndrome _ hj, hsyn j hj, Nat.zero_testBit]

theorem parityBad_buildHeader (f : HeaderFields) : parityBad (buildHeader f) = false := (buildHeader_spec f).1

/-- Settles O6: the fields are placed and read at the same positions, and the check bits stand elsewhere. -/
theorem builtHeaderHoldsItsFields : Obligations.BuiltHeaderHoldsItsFields := by
  refine ⟨fun f => ⟨headerFields_buildHeader f, holdsFields_buildHeader f, fun j hj => ?_, ?_⟩,
    holdsFields_headerFields⟩
  · obtain ⟨-, hsyn, -⟩ := buildHeader_spec f
    have heven := hsyn j hj
    rw [syndromeBit_eq, decide_eq_false_iff_not] at heven
    exact Nat.mod_two_ne_one.mp heven
  · have heven := parityBad_buildHeader f
    rw [parityBad_eq, decide_eq_false_iff_not] at heven
    exact Nat.mod_two_ne_one.mp heven

/-! ### The receiver's check of a built header (R194) -/

theorem checkHeader_buildHeader (f : HeaderFields) : checkHeader (buildHeader f) = .clean f := by
  rw [checkHeader, parityBad_buildHeader, syndrome_buildHeader, headerFields_buildHeader]
  rfl

/-- With one bit inverted the parity is bad and the syndrome is the bit's position. -/
theorem checkHeader_flipBit_buildHeader (f : HeaderFields) {i : Nat} (hi : i < 32) :
    checkHeader (flipBit (buildHeader f) i) = .corrected f := by
  rw [checkHeader, parityBad_flipBit _ hi, parityBad_buildHeader, syndrome_flipBit _ hi, syndrome_buildHeader,
    Nat.zero_xor, flipBit_flipBit, headerFields_buildHeader]
  rfl

/-- With two bits inverted the parity is good and the syndrome is the exclusive-or of two positions, which is not 0. -/
theorem checkHeader_flipBit_flipBit_buildHeader (f : HeaderFields) {i j : Nat} (hij : i ≠ j) (hi : i < 32)
    (hj : j < 32) : checkHeader (flipBit (flipBit (buildHeader f) i) j) = .uncorrectable := by
  have hsyn : i ^^^ j ≠ 0 := fun e => hij (Nat.xor_eq_zero_iff.mp e)
  rw [checkHeader, parityBad_flipBit _ hj, parityBad_flipBit _ hi, parityBad_buildHeader, syndrome_flipBit _ hj,
    syndrome_flipBit _ hi, syndrome_buildHeader, Nat.zero_xor, if_neg hsyn]
  rfl

/-- Settles O8: what an inverted bit does to parity and syndrome, on a built header, whose syndrome is 0. -/
theorem headerCodeCorrectsOneDetectsTwo : Obligations.HeaderCodeCorrectsOneDetectsTwo :=
  fun f => ⟨checkHeader_buildHeader f, fun _ hi => checkHeader_flipBit_buildHeader f hi,
    fun _ _ hij hj => checkHeader_flipBit_flipBit_buildHeader f hij.ne (hij.trans hj) hj⟩

end Sys2Proof.Machine
end

section
/-!
PROOFS. Whole frames (R192, R193, R195): bytes and words, the CRC as an injective register, the receiver's checks of a
frame's body, and what an inverted bit does to them.
-/

namespace Sys2Proof.Machine

/-! ### Bytes and words (00 section 0.4.3) -/

theorem wordOfBytes_extract (w : Word) :
    wordOfBytes (w.extractLsb' 0 8) (w.extractLsb' 8 8) (w.extractLsb' 16 8) (w.extractLsb' 24 8) = w := by
  refine BitVec.eq_of_getLsbD_eq fun k hk => ?_
  simp only [wordOfBytes, BitVec.getLsbD_append, BitVec.getLsbD_extractLsb']
  interval_cases k <;> rfl

theorem wordBytes_wordOfBytes (a b c d : Byte) : wordBytes (wordOfBytes a b c d) = [a, b, c, d] := by
  have byte {x y : Byte} (h : ∀ k, k < 8 → x.getLsbD k = y.getLsbD k) : x = y := BitVec.eq_of_getLsbD_eq h
  simp only [wordBytes, wordOfBytes, List.cons.injEq, and_true]
  refine ⟨byte fun k hk => ?_, byte fun k hk => ?_, byte fun k hk => ?_, byte fun k hk => ?_⟩ <;>
    · simp only [BitVec.getLsbD_append, BitVec.getLsbD_extractLsb']
      interval_cases k <;> rfl

theorem length_wordBytes (w : Word) : (wordBytes w).length = 4 := rfl

theorem length_flatMap_wordBytes (ws : List Word) : (ws.flatMap wordBytes).length = 4 * ws.length := by
  induction ws with
  | nil => rfl
  | cons w ws ih =>
    rw [List.flatMap_cons, List.length_append, ih, List.length_cons, length_wordBytes]
    omega

theorem wordsOfBytes_flatMap_wordBytes (ws : List Word) : wordsOfBytes (ws.flatMap wordBytes) = ws := by
  induction ws with
  | nil => rfl
  | cons w ws ih =>
    rw [List.flatMap_cons]
    change wordOfBytes _ _ _ _ :: wordsOfBytes (ws.flatMap wordBytes) = w :: ws
    rw [ih, wordOfBytes_extract]

/-- Bytes that fill their words are the bytes of those words. -/
theorem flatMap_wordBytes_wordsOfBytes {n : Nat} {bytes : List Byte} (h : bytes.length = 4 * n) :
    (wordsOfBytes bytes).flatMap wordBytes = bytes := by
  induction n generalizing bytes with
  | zero => rw [List.eq_nil_of_length_eq_zero h]; rfl
  | succ n ih =>
    match bytes, h with
    | a :: b :: c :: d :: rest, h =>
      have hrest : rest.length = 4 * n := by simp only [List.length_cons] at h; omega
      rw [wordsOfBytes, List.flatMap_cons, wordBytes_wordOfBytes, ih hrest]
      rfl

/-! ### The CRC register (R195) -/

section

variable {r r' : BitVec 16} {x : Bool} {j : Nat} {b : Byte}

theorem crcBit_eq (r : BitVec 16) (x : Bool) :
    crcBit r x = if r.getLsbD 15 = x then r <<< 1 else (r <<< 1) ^^^ 0x8005#16 := by
  rw [crcBit, BitVec.msb_eq_getLsbD_last]
  cases r.getLsbD 15 <;> cases x <;> rfl

/-- Bit 0 of the register says whether bit 15 and the data bit differed. -/
theorem getLsbD_zero_crcBit (r : BitVec 16) (x : Bool) : (crcBit r x).getLsbD 0 = xor (r.getLsbD 15) x := by
  have hshift : (r <<< 1).getLsbD 0 = false := by simp
  rw [crcBit_eq]
  split
  · next e => rw [hshift, e, Bool.xor_self]
  · next e =>
    rw [BitVec.getLsbD_xor, hshift, Bool.eq_not.mpr e, Bool.not_xor_self]
    rfl

theorem crcBit_ne_crcBit_not (r : BitVec 16) (x : Bool) : crcBit r x ≠ crcBit r !x := by
  intro e
  have hbit := congrArg (fun v : BitVec 16 => v.getLsbD 0) e
  simp only [getLsbD_zero_crcBit] at hbit
  exact Bool.self_ne_not x (Bool.xor_right_inj.mp hbit)

/-- No two registers become one by the same data bit. -/
theorem crcBit_injective (h : crcBit r x = crcBit r' x) : r = r' := by
  have htop : r.getLsbD 15 = r'.getLsbD 15 := by
    have hbit := congrArg (fun v : BitVec 16 => v.getLsbD 0) h
    simp only [getLsbD_zero_crcBit] at hbit
    exact Bool.xor_left_inj.mp hbit
  have hshift : r <<< 1 = r' <<< 1 := by
    rw [crcBit_eq, crcBit_eq, htop] at h
    split at h
    · exact h
    · exact (BitVec.xor_left_inj _).mp h
  refine BitVec.eq_of_getLsbD_eq fun k hk => ?_
  by_cases hlast : k = 15
  · rw [hlast, htop]
  · have hlt : k + 1 < 16 := by omega
    have hbit := congrArg (fun v : BitVec 16 => v.getLsbD (k + 1)) hshift
    simpa [-BitVec.getLsbD_eq_getElem, BitVec.getLsbD_shiftLeft, hlt] using hbit

theorem foldl_crcBit_injective (g : Nat → Bool) (l : List Nat)
    (h : l.foldl (fun r i => crcBit r (g i)) r = l.foldl (fun r i => crcBit r (g i)) r') : r = r' := by
  induction l generalizing r r' with
  | nil => exact h
  | cons i l ih => exact crcBit_injective (ih h)

/-- One data bit inverted among those taken changes the register. -/
theorem foldl_crcBit_ne {g g' : Nat → Bool} {l : List Nat} (hl : l.Nodup) (hj : j ∈ l) (hflip : g' j = !g j)
    (hsame : ∀ i, i ≠ j → g' i = g i) (r : BitVec 16) :
    l.foldl (fun r i => crcBit r (g i)) r ≠ l.foldl (fun r i => crcBit r (g' i)) r := by
  induction l generalizing r with
  | nil => cases hj
  | cons i l ih =>
    obtain ⟨hi, hl⟩ := List.nodup_cons.mp hl
    rw [List.foldl_cons, List.foldl_cons]
    by_cases e : i = j
    · subst e
      have htail (r : BitVec 16) : l.foldl (fun r k => crcBit r (g' k)) r = l.foldl (fun r k => crcBit r (g k)) r :=
        List.foldl_ext _ _ _ fun r k hk => by rw [hsame k fun e => hi (e ▸ hk)]
      rw [hflip, htail]
      exact fun h => crcBit_ne_crcBit_not r (g i) (foldl_crcBit_injective g l h)
    · rw [hsame i e]
      exact ih hl ((List.mem_cons.mp hj).resolve_left (Ne.symm e)) _

theorem crcByte_injective (h : crcByte r b = crcByte r' b) : r = r' := foldl_crcBit_injective _ _ h

theorem foldl_crcByte_injective (bytes : List Byte) (h : bytes.foldl crcByte r = bytes.foldl crcByte r') : r = r' := by
  induction bytes generalizing r r' with
  | nil => exact h
  | cons b bytes ih => exact crcByte_injective (ih h)

theorem getLsbD_flipByte (b : Byte) (hj : j < 8) (k : Nat) :
    (b ^^^ (1#8 <<< j)).getLsbD k = xor (b.getLsbD k) (decide (k = j)) := by
  rw [BitVec.getLsbD_xor, show (1#8 <<< j) = BitVec.twoPow 8 j from rfl, BitVec.getLsbD_twoPow]
  simp [hj, eq_comm]

theorem flipByte_ne (b : Byte) (hj : j < 8) : b ^^^ (1#8 <<< j) ≠ b := by
  intro e
  have hbit := congrArg (fun v : Byte => v.getLsbD j) e
  simp [getLsbD_flipByte b hj] at hbit

theorem crcByte_flipByte_ne (r : BitVec 16) (b : Byte) (hj : j < 8) :
    crcByte r b ≠ crcByte r (b ^^^ (1#8 <<< j)) := by
  refine foldl_crcBit_ne (by decide) (j := j) (by revert j; decide) ?_ (fun i hi => ?_) r
  · simp [getLsbD_flipByte b hj]
  · simp [getLsbD_flipByte b hj, hi]

/-- One bit inverted anywhere changes the CRC. -/
theorem crc_set_flipByte_ne {bytes : List Byte} {i : Nat} (hi : i < bytes.length) (hj : j < 8) :
    crc (bytes.set i (bytes[i] ^^^ (1#8 <<< j))) ≠ crc bytes := by
  intro e
  have hsplit : bytes = bytes.take i ++ bytes[i] :: bytes.drop (i + 1) := by
    rw [List.cons_getElem_drop_succ, List.take_append_drop]
  rw [List.set_eq_take_append_cons_drop, if_pos hi] at e
  conv at e => rhs; rw [hsplit]
  rw [crc, crc, List.foldl_append, List.foldl_append, List.foldl_cons, List.foldl_cons] at e
  exact crcByte_flipByte_ne _ _ hj (foldl_crcByte_injective _ e).symm

end

theorem crcBytes_injective {c d : BitVec 16} (h : crcBytes c = crcBytes d) : c = d := by
  simp only [crcBytes, List.cons.injEq, and_true] at h
  obtain ⟨hlow, hhigh⟩ := h
  refine BitVec.eq_of_getLsbD_eq fun k hk => ?_
  by_cases hk8 : k < 8
  · simpa [hk8] using congrArg (fun v : Byte => v.getLsbD k) hlow
  · have hbit := congrArg (fun v : Byte => v.getLsbD (k - 8)) hhigh
    have hsub : k - 8 < 8 := by omega
    have hadd : 8 + (k - 8) = k := by omega
    simpa [hsub, hadd] using hbit

/-! ### The checks of a frame's body (R195) -/

section

variable {f : HeaderFields} {body ends : List Byte}

theorem checkBody_of_byteCount (h : body.length ≠ if f.length = 0#8 then 0 else 4 * f.length.toNat + 2) :
    checkBody f body = .error .byteCount := by
  rw [checkBody]
  by_cases hf : f.length = 0
  · rw [show f.length = 0#8 from hf, if_pos rfl] at h
    rw [if_pos hf, if_neg fun e => h (List.length_eq_zero_iff.mpr e)]
  · rw [if_neg (show f.length ≠ 0#8 from hf)] at h
    rw [if_neg hf, if_pos h]

theorem checkBody_nil (hf : f.length = 0) :
    checkBody f [] = .ok { kind := f.kind, tag := f.tag, seq := f.seq, payload := [] } := by
  rw [checkBody, if_pos hf, if_pos rfl]

/-- With the right byte count the last two bytes decide. -/
theorem checkBody_append (hf : f.length ≠ 0) (hbody : body.length = 4 * f.length.toNat) (hends : ends.length = 2) :
    checkBody f (body ++ ends) = if ends = crcBytes (crc body) then
      .ok { kind := f.kind, tag := f.tag, seq := f.seq, payload := wordsOfBytes body } else .error .crc := by
  have hcount : ¬(body ++ ends).length ≠ 4 * f.length.toNat + 2 := by
    rw [List.length_append, hbody, hends]; exact fun h => h rfl
  rw [checkBody, if_neg hf, if_neg hcount, ← hbody, List.take_left, List.drop_left]

end

/-! ### Reception (R192, R194, R195) -/

section

variable {a b c d : Byte} {h : Word} {f : HeaderFields}

theorem receive_cons_of_clean (hc : checkHeader (wordOfBytes a b c d) = .clean f) (body : List Byte) :
    receive (a :: b :: c :: d :: body) = { corrected := false, result := checkBody f body } := by
  unfold receive
  simp only [hc]

theorem receive_cons_of_corrected (hc : checkHeader (wordOfBytes a b c d) = .corrected f) (body : List Byte) :
    receive (a :: b :: c :: d :: body) = { corrected := true, result := checkBody f body } := by
  unfold receive
  simp only [hc]

theorem receive_of_clean (hc : checkHeader h = .clean f) (body : List Byte) :
    receive (wordBytes h ++ body) = { corrected := false, result := checkBody f body } :=
  receive_cons_of_clean ((congrArg checkHeader (wordOfBytes_extract h)).trans hc) body

theorem receive_of_corrected (hc : checkHeader h = .corrected f) (body : List Byte) :
    receive (wordBytes h ++ body) = { corrected := true, result := checkBody f body } :=
  receive_cons_of_corrected ((congrArg checkHeader (wordOfBytes_extract h)).trans hc) body

end

theorem receive_buildHeader (f : HeaderFields) (body : List Byte) :
    receive (wordBytes (buildHeader f) ++ body) = { corrected := false, result := checkBody f body } :=
  receive_of_clean (checkHeader_buildHeader f) body

/-- The bytes of a frame after its header: none without a payload, and otherwise the payload and its CRC. -/
def bodyBytes (payload : List Word) : List Byte :=
  if payload = [] then [] else payload.flatMap wordBytes ++ crcBytes (crc (payload.flatMap wordBytes))

theorem frameBytes_eq (kind tag : Byte) (seq : BitVec 2) (payload : List Word) : frameBytes kind tag seq payload =
    wordBytes (buildHeader { kind, tag, length := BitVec.ofNat 8 payload.length, seq }) ++ bodyBytes payload := by
  by_cases h : payload = []
  · rw [frameBytes, bodyBytes, if_pos h, if_pos h, List.append_nil]
  · rw [frameBytes, bodyBytes, if_neg h, if_neg h, List.append_assoc]

theorem toNat_payloadLength {payload : List Word} (hlen : payload.length ≤ 255) :
    (BitVec.ofNat 8 payload.length).toNat = payload.length := by
  rw [BitVec.toNat_ofNat]
  omega

theorem payloadLength_ne_zero {payload : List Word} (hne : payload ≠ []) (hlen : payload.length ≤ 255) :
    BitVec.ofNat 8 payload.length ≠ 0 := by
  intro e
  have hzero := congrArg BitVec.toNat e
  rw [toNat_payloadLength hlen] at hzero
  exact hne (List.length_eq_zero_iff.mp hzero)

theorem checkBody_bodyBytes (kind tag : Byte) (seq : BitVec 2) {payload : List Word} (hlen : payload.length ≤ 255) :
    checkBody { kind, tag, length := BitVec.ofNat 8 payload.length, seq } (bodyBytes payload) =
      .ok { kind, tag, seq, payload } := by
  by_cases hne : payload = []
  · subst hne
    exact checkBody_nil rfl
  · rw [bodyBytes, if_neg hne, checkBody_append (payloadLength_ne_zero hne hlen)
      (by rw [toNat_payloadLength hlen, length_flatMap_wordBytes]) rfl, if_pos rfl, wordsOfBytes_flatMap_wordBytes]

/-- Settles O9: the header is decoded by the code of O8, and the body passes byte count and CRC. -/
theorem framesAreReceivedAsBuilt : Obligations.FramesAreReceivedAsBuilt := by
  intro kind tag seq payload hlen
  refine ⟨?_, fun i hi => ?_⟩
  · rw [frameBytes_eq, receive_buildHeader, checkBody_bodyBytes kind tag seq hlen]
  · rw [frameBytes_eq, List.drop_left' (length_wordBytes _),
      receive_of_corrected (checkHeader_flipBit_buildHeader _ hi), checkBody_bodyBytes kind tag seq hlen]

/-! ### Inverted bits of a body (R195) -/

/-- One bit inverted in payload or CRC: the CRC of the bytes before the last two is no longer what they say. -/
theorem checkBody_flipByte {f : HeaderFields} {body : List Byte} {i j : Nat} (hf : f.length ≠ 0)
    (hbody : body.length = 4 * f.length.toNat) (hi : i < body.length + 2) (hj : j < 8) :
    checkBody f ((body ++ crcBytes (crc body)).set i
      ((body ++ crcBytes (crc body)).getD i 0#8 ^^^ (1#8 <<< j))) = .error .crc := by
  by_cases hpay : i < body.length
  · rw [List.getD_append _ _ _ _ hpay, List.getD_eq_getElem _ _ hpay, List.set_append_left _ _ hpay,
      checkBody_append hf (by rw [List.length_set, hbody]) rfl, if_neg]
    exact fun e => crc_set_flipByte_ne hpay hj (crcBytes_injective e).symm
  · have hle : body.length ≤ i := Nat.le_of_not_lt hpay
    have hlast : i - body.length < (crcBytes (crc body)).length := by
      rw [show (crcBytes (crc body)).length = 2 from rfl]; omega
    rw [List.getD_append_right _ _ _ _ hle, List.getD_eq_getElem _ _ hlast, List.set_append_right _ _ hle,
      checkBody_append hf hbody (by rw [List.length_set]; rfl), if_neg]
    intro e
    have hget := congrArg (fun l : List Byte => l[i - body.length]?) e
    simp only [List.getElem?_set_self hlast, List.getElem?_eq_getElem hlast, Option.some.injEq] at hget
    exact flipByte_ne _ hj hget

theorem receive_of_length_lt {bytes : List Byte} (h : bytes.length < 4) :
    receive bytes = { corrected := false, result := .error .byteCount } := by
  match bytes, h with
  | [], _ | [_], _ | [_, _], _ | [_, _, _], _ => rfl

/-- Settles O10: the receiver's checks of a body by byte count and CRC, and the CRC register, which an inverted bit
changes for good. -/
theorem payloadBitErrorsFailTheCrc : Obligations.PayloadBitErrorsFailTheCrc := by
  refine ⟨?_, ⟨rfl, fun bytes b => ?_⟩, ?_, ?_, fun _ h => receive_of_length_lt h, ?_⟩
  · intro kind tag seq payload i j hne hlen hi hj
    have hbody : (payload.flatMap wordBytes).length = 4 * (BitVec.ofNat 8 payload.length).toNat := by
      rw [toNat_payloadLength hlen, length_flatMap_wordBytes]
    have hi' : i < (payload.flatMap wordBytes).length + 2 := by rw [length_flatMap_wordBytes]; exact hi
    have hhead (w : Word) : (wordBytes w).length ≤ 4 + i := Nat.le_add_right 4 i
    have hsub (w : Word) : 4 + i - (wordBytes w).length = i := Nat.add_sub_cancel_left 4 i
    rw [frameBytes_eq, List.set_append_right _ _ (hhead _), List.getD_append_right _ _ _ _ (hhead _), hsub,
      receive_buildHeader, bodyBytes, if_neg hne, checkBody_flipByte (payloadLength_ne_zero hne hlen) hbody hi' hj]
  · rw [crc, List.foldl_append, List.foldl_cons, List.foldl_nil, ← crc]
    exact List.foldl_ext _ _ _ fun r i _ => crcBit_eq r _
  · intro kind tag seq payload hne
    rw [frameBytes_eq, bodyBytes, if_neg hne, List.append_assoc]
    rfl
  · intro f body h
    exact (receive_buildHeader f body).trans (by rw [checkBody_of_byteCount h])
  · intro f body ends hf hbody hends
    have hreceive := receive_buildHeader f (body ++ ends)
    rw [← List.append_assoc, checkBody_append hf hbody hends] at hreceive
    refine ⟨fun (e : ends = crcBytes (crc body)) => ⟨wordsOfBytes body, flatMap_wordBytes_wordsOfBytes hbody, ?_⟩,
      fun (e : ends ≠ crcBytes (crc body)) => ?_⟩
    · rw [if_pos e] at hreceive
      exact hreceive
    · rw [if_neg e] at hreceive
      exact hreceive

end Sys2Proof.Machine
end
